-- ==== Sys2Proof/Word.lean ====
section
/-! DEFINITION. The word types of the engine (spec 00_scope.md R13: BYTE_W = 8, ADDR_W = LEN_W = 16). -/

namespace Sys2Proof

/-- A byte: on the wire, in the buffer, in a register (20_memory.md R73). -/
abbrev Byte := BitVec 8

/-- A 16-bit device address, byte count or buffer index (00_scope.md R13). -/
abbrev Half := BitVec 16

end Sys2Proof
end

