-- ==== Sys2Proof/Config.lean ====
section
/-! DEFINITION. What is fixed for this hardware: the wire constants, the timing minimums, the page size; the
parameters the spec leaves open, as constants with no body; and the free values of the line environment. -/

namespace Sys2Proof.Config

/-! Wire constants (00_scope.md R11). -/

def startHeader : Byte := 0x55#8
def opcRead : Byte := 0x03#8
def opcCrrd : Byte := 0x06#8
def opcWrite : Byte := 0x6C#8
def opcWren : Byte := 0x96#8
def opcWrdi : Byte := 0x91#8
def opcRdsr : Byte := 0x05#8
def opcWrsr : Byte := 0x6E#8
def opcEral : Byte := 0x6D#8
def opcSetal : Byte := 0x67#8

/-- Bytes of a device page (00_scope.md R13). -/
def pageSize : Nat := 16

/-- Whether `await_write_complete` opens with one standby pulse (R14, R206). -/
def awaitLeadingStandby : Bool := true

/-! Timing (00_scope.md R12). Every interval is a minimum plus a margin the spec leaves open. -/

/-- The five intervals that `DLY` is called with. -/
inductive Interval where
  | setup | stby | gap | hdr | quarter
  deriving DecidableEq, Repr

/-- `T_SETUP`, in microseconds: open, any natural number (R12, 91_not_in_source.md N3). -/
opaque tSetup : Nat

/-- The safety margin added to each interval: open (D17). -/
opaque margin : Interval → Nat

/-- One less than `CLK_PER_US`, which is open and at least 1 (R12). -/
opaque clkPerUsLess1 : Nat

/-- Clock ticks per microsecond. -/
def clkPerUs : Nat := clkPerUsLess1 + 1

/-- The minimum of each interval in microseconds (R12). -/
def minMicros : Interval → Nat
  | .setup => tSetup
  | .stby => 600
  | .gap => 10
  | .hdr => 5
  | .quarter => 10

/-- The effective value of each interval: at least its minimum (R12). -/
def micros (i : Interval) : Nat := minMicros i + margin i

/-- One less than `BUF_SIZE`, which is open, 1 to 65536 (92_eei_decisions.md, open parameters). -/
opaque bufSizeLess1 : Fin 65536

/-- Bytes of the host buffer. -/
def bufSize : Nat := bufSizeLess1.val + 1

/-! Free values: nothing is known of them. -/

/-- What the line environment does at the `n`-th sample of a run: nothing (`none`, the pull-up decides) or
drive a level. The oracle of 40_bus_primitive.md R143 (U14). -/
opaque lineDrive : Nat → Option Bool

/-- The level sampled at the `n`-th sample while master and environment drive opposite levels (R142, U1). -/
opaque contention : Nat → Bool

end Sys2Proof.Config
end

