-- ==== Sys2Proof/Syntax.lean ====
section
/-! DEFINITION. The instructions: one constructor per row of spec/opcode_table.json, in the table's order. -/

namespace Sys2Proof

/-- The block's words at all its levels (30_encoding.md R100): host requests, wire commands, opcodes without a
command format, the start header, bit slots. -/
inductive Instr where
  /-- `init()` (R193). -/
  | init
  /-- `read(device_address, start_offset, length)` (R194). -/
  | read (dev : Byte) (offset length : Half)
  /-- `start_write(device_address, start_offset, bytes)`, the bytes being the buffer's first `length` (R195). -/
  | startWrite (dev : Byte) (offset length : Half)
  /-- `enable_write(device_address)` (R197). -/
  | enableWrite (dev : Byte)
  /-- `disable_write(device_address)` (R198). -/
  | disableWrite (dev : Byte)
  /-- `read_status(device_address)` (R199). -/
  | readStatus (dev : Byte)
  /-- `write_status(device_address, status_byte)` (R200). -/
  | writeStatus (dev status : Byte)
  /-- `await_write_complete(device_address)` (R206, R207). -/
  | awaitWriteComplete (dev : Byte)
  /-- `simple_write(device_address, start_offset, bytes)` (R220). -/
  | simpleWrite (dev : Byte) (offset length : Half)
  /-- A request with the reserved `OPSEL` code 9 (R115). -/
  | reserved9
  /-- A request with the reserved `OPSEL` code 10 (R115). -/
  | reserved10
  /-- A request with the reserved `OPSEL` code 11 (R115). -/
  | reserved11
  /-- A request with the reserved `OPSEL` code 12 (R115). -/
  | reserved12
  /-- A request with the reserved `OPSEL` code 13 (R115). -/
  | reserved13
  /-- A request with the reserved `OPSEL` code 14 (R115). -/
  | reserved14
  /-- A request with the reserved `OPSEL` code 15 (R115). -/
  | reserved15
  /-- Wire command READ: device address, 0x03, address high, address low (R107, R108). -/
  | wireRead (dev hi lo : Byte)
  /-- Wire command WRITE: device address, 0x6C, address high, address low. -/
  | wireWrite (dev hi lo : Byte)
  /-- Wire command WREN: device address, 0x96. -/
  | wireWren (dev : Byte)
  /-- Wire command WRDI: device address, 0x91. -/
  | wireWrdi (dev : Byte)
  /-- Wire command RDSR: device address, 0x05. -/
  | wireRdsr (dev : Byte)
  /-- Wire command WRSR: device address, 0x6E, status byte. -/
  | wireWrsr (dev status : Byte)
  /-- The reserved opcode 0x06 (R111). -/
  | crrd
  /-- The reserved opcode 0x6D (R111). -/
  | eral
  /-- The reserved opcode 0x67 (R111). -/
  | setal
  /-- The start header: low hold, then the frame 0x55 (R106, R182). -/
  | startHeader
  /-- The bit slot of a logical 1: low, low, high, high (R101). -/
  | bit1
  /-- The bit slot of a logical 0: high, high, low, low (R101). -/
  | bit0
  deriving DecidableEq, Repr

namespace Instr

/-- A host request (30_encoding.md R114, R115). -/
def isRequest : Instr → Bool
  | .init | .read .. | .startWrite .. | .enableWrite .. | .disableWrite .. | .readStatus .. | .writeStatus ..
  | .awaitWriteComplete .. | .simpleWrite .. | .reserved9 | .reserved10 | .reserved11 | .reserved12 | .reserved13
  | .reserved14 | .reserved15 => true
  | .wireRead .. | .wireWrite .. | .wireWren .. | .wireWrdi .. | .wireRdsr .. | .wireWrsr .. | .crrd | .eral | .setal
  | .startHeader | .bit1 | .bit0 => false

/-- A wire command the engine emits (R108). -/
def isWire : Instr → Bool
  | .wireRead .. | .wireWrite .. | .wireWren .. | .wireWrdi .. | .wireRdsr .. | .wireWrsr .. => true
  | .init | .read .. | .startWrite .. | .enableWrite .. | .disableWrite .. | .readStatus .. | .writeStatus ..
  | .awaitWriteComplete .. | .simpleWrite .. | .reserved9 | .reserved10 | .reserved11 | .reserved12 | .reserved13
  | .reserved14 | .reserved15 | .crrd | .eral | .setal | .startHeader | .bit1 | .bit0 => false

end Instr

end Sys2Proof
end

