-- ==== Sys2Proof/WellFormed.lean ====
section
/-! DEFINITION. Well-formed instructions. Every operand has its field's exact width by its type, so the two checks
are the spec's two reservations: an `OPSEL` code without an operation (R115) and an opcode without a command
format (R111). Reserved words are encoded and decoded all the same, each to a constructor of its own. -/

namespace Sys2Proof.Instr

/-- The request names one of the nine operations: its `OPSEL` code is none of 9 to 15 (30_encoding.md R115). -/
def opselAssigned : Instr → Bool
  | .reserved9 | .reserved10 | .reserved11 | .reserved12 | .reserved13 | .reserved14 | .reserved15 => false
  | .init | .read .. | .startWrite .. | .enableWrite .. | .disableWrite .. | .readStatus .. | .writeStatus ..
  | .awaitWriteComplete .. | .simpleWrite .. | .wireRead .. | .wireWrite .. | .wireWren .. | .wireWrdi ..
  | .wireRdsr .. | .wireWrsr .. | .crrd | .eral | .setal | .startHeader | .bit1 | .bit0 => true

/-- The opcode has a command format: it is none of CRRD, ERAL, SETAL (30_encoding.md R111). -/
def opcodeAssigned : Instr → Bool
  | .crrd | .eral | .setal => false
  | .init | .read .. | .startWrite .. | .enableWrite .. | .disableWrite .. | .readStatus .. | .writeStatus ..
  | .awaitWriteComplete .. | .simpleWrite .. | .reserved9 | .reserved10 | .reserved11 | .reserved12 | .reserved13
  | .reserved14 | .reserved15 | .wireRead .. | .wireWrite .. | .wireWren .. | .wireWrdi .. | .wireRdsr ..
  | .wireWrsr .. | .startHeader | .bit1 | .bit0 => true

/-- The instruction is one to which the spec assigns an operation. -/
def wellFormed (i : Instr) : Bool := i.opselAssigned && i.opcodeAssigned

end Sys2Proof.Instr
end

