-- ==== Sys2Proof/Decode.lean ====
section
/-! DEFINITION. Decoding: total on any list of bytes, rejecting by name; and the encoder. The formats have
different lengths (30_encoding.md R100, R107, R124), so the number of bytes says the format: one byte is an opcode
without a format, the start header or a slot code; two, three and four bytes are the wire formats C2, C3 and C4; seven
bytes are a host request. Byte 0 is the most significant, as R107 and R124 write the words. -/

namespace Sys2Proof

/-- Why a list of bytes is no instruction. -/
inductive Reject where
  /-- No format has this many bytes (R107, R124). -/
  | badLength (n : Nat)
  /-- One byte that is no slot code, no header and no opcode of R111. -/
  | badByte (b : Byte)
  /-- The second byte is no opcode of a command of this length (R108, R112). -/
  | badOpcode (n : Nat) (op : Byte)
  /-- A request word of more than 52 bits (R124). -/
  | badRequest (top : Byte)
  deriving DecidableEq, Repr

/-- `a ++ b`, the first byte more significant (00_scope.md R15). -/
def joinBytes (hi lo : Byte) : Half := hi ++ lo

/-- Bits 15 to 8. -/
def hiByte (h : Half) : Byte := h.extractLsb' 8 8

/-- Bits 7 to 0. -/
def loByte (h : Half) : Byte := h.extractLsb' 0 8

/-- A one-byte word: R101 (a slot code is four bits, high half zero), R106, R111. -/
def decodeByte (b : Byte) : Except Reject Instr :=
  if b = 0x03#8 then .ok .bit1
  else if b = 0x0C#8 then .ok .bit0
  else if b = Config.startHeader then .ok .startHeader
  else if b = Config.opcCrrd then .ok .crrd
  else if b = Config.opcEral then .ok .eral
  else if b = Config.opcSetal then .ok .setal
  else .error (.badByte b)

/-- Format C2: device address, opcode (R107, R108). -/
def decodeC2 (dev op : Byte) : Except Reject Instr :=
  if op = Config.opcWren then .ok (.wireWren dev)
  else if op = Config.opcWrdi then .ok (.wireWrdi dev)
  else if op = Config.opcRdsr then .ok (.wireRdsr dev)
  else .error (.badOpcode 2 op)

/-- Format C3: device address, opcode, status byte (R107, R108). -/
def decodeC3 (dev op status : Byte) : Except Reject Instr :=
  if op = Config.opcWrsr then .ok (.wireWrsr dev status) else .error (.badOpcode 3 op)

/-- Format C4: device address, opcode, address high, address low (R107, R108). -/
def decodeC4 (dev op hi lo : Byte) : Except Reject Instr :=
  if op = Config.opcRead then .ok (.wireRead dev hi lo)
  else if op = Config.opcWrite then .ok (.wireWrite dev hi lo)
  else .error (.badOpcode 4 op)

/-- A request, matched on `OPSEL` alone; fields an operation does not read are ignored (R114, R115, R124). -/
def decodeRequest (opsel : BitVec 4) (dev : Byte) (offset length : Half) (status : Byte) : Instr :=
  match opsel.toNat with
  | 0 => .init
  | 1 => .read dev offset length
  | 2 => .startWrite dev offset length
  | 3 => .enableWrite dev
  | 4 => .disableWrite dev
  | 5 => .readStatus dev
  | 6 => .writeStatus dev status
  | 7 => .awaitWriteComplete dev
  | 8 => .simpleWrite dev offset length
  | 9 => .reserved9
  | 10 => .reserved10
  | 11 => .reserved11
  | 12 => .reserved12
  | 13 => .reserved13
  | 14 => .reserved14
  | _ => .reserved15

/-- The decoder. -/
def decode : List Byte → Except Reject Instr
  | [b] => decodeByte b
  | [dev, op] => decodeC2 dev op
  | [dev, op, status] => decodeC3 dev op status
  | [dev, op, hi, lo] => decodeC4 dev op hi lo
  | [top, dev, o1, o0, n1, n0, status] =>
    if top.extractLsb' 4 4 = 0#4 then
      .ok (decodeRequest (top.extractLsb' 0 4) dev (joinBytes o1 o0) (joinBytes n1 n0) status)
    else .error (.badRequest top)
  | bytes => .error (.badLength bytes.length)

/-- The seven bytes of the request word (R124). -/
def requestBytes (opsel : BitVec 4) (dev : Byte) (offset length : Half) (status : Byte) : List Byte :=
  [0#4 ++ opsel, dev, hiByte offset, loByte offset, hiByte length, loByte length, status]

/-- The encoder; a field the operation ignores is written as zero. -/
def encode : Instr → List Byte
  | .init => requestBytes 0 0 0 0 0
  | .read dev offset length => requestBytes 1 dev offset length 0
  | .startWrite dev offset length => requestBytes 2 dev offset length 0
  | .enableWrite dev => requestBytes 3 dev 0 0 0
  | .disableWrite dev => requestBytes 4 dev 0 0 0
  | .readStatus dev => requestBytes 5 dev 0 0 0
  | .writeStatus dev status => requestBytes 6 dev 0 0 status
  | .awaitWriteComplete dev => requestBytes 7 dev 0 0 0
  | .simpleWrite dev offset length => requestBytes 8 dev offset length 0
  | .reserved9 => requestBytes 9 0 0 0 0
  | .reserved10 => requestBytes 10 0 0 0 0
  | .reserved11 => requestBytes 11 0 0 0 0
  | .reserved12 => requestBytes 12 0 0 0 0
  | .reserved13 => requestBytes 13 0 0 0 0
  | .reserved14 => requestBytes 14 0 0 0 0
  | .reserved15 => requestBytes 15 0 0 0 0
  | .wireRead dev hi lo => [dev, Config.opcRead, hi, lo]
  | .wireWrite dev hi lo => [dev, Config.opcWrite, hi, lo]
  | .wireWren dev => [dev, Config.opcWren]
  | .wireWrdi dev => [dev, Config.opcWrdi]
  | .wireRdsr dev => [dev, Config.opcRdsr]
  | .wireWrsr dev status => [dev, Config.opcWrsr, status]
  | .crrd => [Config.opcCrrd]
  | .eral => [Config.opcEral]
  | .setal => [Config.opcSetal]
  | .startHeader => [Config.startHeader]
  | .bit1 => [0x03#8]
  | .bit0 => [0x0C#8]

/-! ## Table words -/

/-- How many bytes a table row of `nbits` bits is laid out in: rows of up to 32 bits fill whole bytes, the
52-bit request word fills seven. -/
def tableBytes (nbits : Nat) : Nat :=
  let n := (nbits + 7) / 8
  if n ≤ 1 then 1 else if n ≤ 4 then n else 7

/-- The `n` low bytes of a number, most significant first. -/
def bytesOfNat : Nat → Nat → List Byte
  | 0, _ => []
  | n + 1, w => BitVec.ofNat 8 (w / 2 ^ (8 * n)) :: bytesOfNat n w

/-- The number a list of bytes is, the first byte most significant. -/
def natOfBytes (bytes : List Byte) : Nat := bytes.foldl (fun n b => 256 * n + b.toNat) 0

/-- What the decoder reads from a word as spec/opcode_table.json numbers its bits. -/
def decodeTableWord (nbits w : Nat) : Option Instr :=
  if w < 2 ^ (8 * tableBytes nbits) then
    match decode (bytesOfNat (tableBytes nbits) w) with
    | .ok i => some i
    | .error _ => none
  else none

/-- A row of spec/opcode_table.json: its bits, its mask and its pattern. -/
structure TableRow where
  mnemonic : String
  nbits : Nat
  mask : Nat
  pattern : Nat
  deriving DecidableEq, Repr

/-- The rows of the host requests (R114, R115). -/
def requestRows : List TableRow :=
  [⟨"init", 52, 0xF000000000000, 0x0000000000000⟩, ⟨"read", 52, 0xF000000000000, 0x1000000000000⟩,
   ⟨"start_write", 52, 0xF000000000000, 0x2000000000000⟩, ⟨"enable_write", 52, 0xF000000000000, 0x3000000000000⟩,
   ⟨"disable_write", 52, 0xF000000000000, 0x4000000000000⟩, ⟨"read_status", 52, 0xF000000000000, 0x5000000000000⟩,
   ⟨"write_status", 52, 0xF000000000000, 0x6000000000000⟩,
   ⟨"await_write_complete", 52, 0xF000000000000, 0x7000000000000⟩,
   ⟨"simple_write", 52, 0xF000000000000, 0x8000000000000⟩] ++
  [⟨"reserved_opsel_9", 52, 0xF000000000000, 0x9000000000000⟩,
   ⟨"reserved_opsel_10", 52, 0xF000000000000, 0xA000000000000⟩,
   ⟨"reserved_opsel_11", 52, 0xF000000000000, 0xB000000000000⟩,
   ⟨"reserved_opsel_12", 52, 0xF000000000000, 0xC000000000000⟩,
   ⟨"reserved_opsel_13", 52, 0xF000000000000, 0xD000000000000⟩,
   ⟨"reserved_opsel_14", 52, 0xF000000000000, 0xE000000000000⟩,
   ⟨"reserved_opsel_15", 52, 0xF000000000000, 0xF000000000000⟩]

/-- The rows of the wire (R101, R106, R108, R111). -/
def wireRows : List TableRow :=
  [⟨"READ", 32, 0x00FF0000, 0x00030000⟩, ⟨"WRITE", 32, 0x00FF0000, 0x006C0000⟩, ⟨"WREN", 16, 0x00FF, 0x0096⟩,
   ⟨"WRDI", 16, 0x00FF, 0x0091⟩, ⟨"RDSR", 16, 0x00FF, 0x0005⟩, ⟨"WRSR", 24, 0x00FF00, 0x006E00⟩,
   ⟨"CRRD", 8, 0xFF, 0x06⟩, ⟨"ERAL", 8, 0xFF, 0x6D⟩, ⟨"SETAL", 8, 0xFF, 0x67⟩, ⟨"START_HEADER", 8, 0xFF, 0x55⟩,
   ⟨"BIT1", 4, 0xF, 0x3⟩, ⟨"BIT0", 4, 0xF, 0xC⟩]

/-- The opcode table. -/
def tableRows : List TableRow := requestRows ++ wireRows

/-- The name of an instruction's row. -/
def Instr.mnemonic : Instr → String
  | .init => "init"
  | .read .. => "read"
  | .startWrite .. => "start_write"
  | .enableWrite .. => "enable_write"
  | .disableWrite .. => "disable_write"
  | .readStatus .. => "read_status"
  | .writeStatus .. => "write_status"
  | .awaitWriteComplete .. => "await_write_complete"
  | .simpleWrite .. => "simple_write"
  | .reserved9 => "reserved_opsel_9"
  | .reserved10 => "reserved_opsel_10"
  | .reserved11 => "reserved_opsel_11"
  | .reserved12 => "reserved_opsel_12"
  | .reserved13 => "reserved_opsel_13"
  | .reserved14 => "reserved_opsel_14"
  | .reserved15 => "reserved_opsel_15"
  | .wireRead .. => "READ"
  | .wireWrite .. => "WRITE"
  | .wireWren .. => "WREN"
  | .wireWrdi .. => "WRDI"
  | .wireRdsr .. => "RDSR"
  | .wireWrsr .. => "WRSR"
  | .crrd => "CRRD"
  | .eral => "ERAL"
  | .setal => "SETAL"
  | .startHeader => "START_HEADER"
  | .bit1 => "BIT1"
  | .bit0 => "BIT0"

/-- A word of `row.nbits` bits that has the row's pattern under the row's mask. -/
def TableRow.hit (row : TableRow) (w : Nat) : Bool :=
  decide (w < 2 ^ row.nbits) && (w &&& row.mask == row.pattern)

end Sys2Proof
end

