-- ==== Sys2Proof/Machine/State.lean ====
section
/-! DEFINITION. The state as plain data: the nine register groups of 10_state.md R20, the two single bits, what the
host owns (`IE`, `BUF`), the inputs of the two other agents, and the primitive trace; the reasons a step can stop;
the state after reset. -/

namespace Sys2Proof.Machine

/-- Why the machine stops with a fault. -/
inductive Fault where
  /-- A command frame is due for `BYTEIDX` past 3, and there is no `CMD[4]` (10_state.md R31). Raised by the
  sequencer in `CMD_FRAME`, in states no run reaches (`CMDLEN` is 2, 3 or 4). Safe. -/
  | noCommandByte (index : Nat)
  deriving DecidableEq, Repr

/-- Why an instruction has no meaning in the model. -/
inductive Refusal where
  /-- An instruction of the table without a meaning. Raised by an arm of exec only; no arm raises it now. Safe. -/
  | notModelled (mnemonic : String)
  /-- An opcode the spec defines without a command format (30_encoding.md R111, U4). Raised by CRRD, ERAL,
  SETAL. Safe. -/
  | reservedOpcode (opcode : Byte)
  /-- A buffer index at or past `BUF_SIZE` would be reached (20_memory.md R71, U8). Raised by the operations with a
  buffer payload, by payload frames of the sequencer, and by a host write to the buffer. Safe. -/
  | bufferRange (index : Nat)
  /-- The host writes an operand register, `IE` or the buffer while `BUSY = 1` (10_state.md R62, U7). Raised by the
  host's moves. Safe. -/
  | hostWriteWhileBusy
  /-- The request registers hold no instruction. Raised by START; no register value does so. Safe. -/
  | noInstruction
  deriving DecidableEq, Repr

/-! ## Value types -/

/-- Direction of the line driver: released (0) or engaged (1) (R21). -/
inductive Direction where
  | input | output
  deriving DecidableEq, Repr

/-- Payload kind, codes 0 to 3 (R32). -/
inductive PayloadDir where
  | none | tx | rxBuf | rxStatus
  deriving DecidableEq, Repr

/-- The line sequence that opens a transaction, codes 0 and 1 (R33). -/
inductive Lead where
  | standby | gap
  deriving DecidableEq, Repr

/-- The device operations (R44, R232). -/
inductive DevOp where
  | read | startWrite | enableWrite | disableWrite | readStatus | writeStatus | await
  deriving DecidableEq, Repr

/-- The values of `CUROP`: the unused code 0, or an operation (R232). -/
inductive CurOp where
  | unused
  | op (d : DevOp)
  deriving DecidableEq, Repr

/-- The phases, codes 0 to 17 (45_sequencer_fsm.md R231). -/
inductive Phase where
  | idle | dispatch | precheck | stbyLow | stbyHigh | gap | csEnter | hdrHold | hdrFrame | cmdFrame | txFrame | rxFrame
  | csExit | pollTest | chunkCalc | chunkAdv | initDo | finish
  deriving DecidableEq, Repr

/-- What the environment does at one sample: nothing, or drive a level (40_bus_primitive.md R142). -/
abbrev Drive := Option Bool

/-- One entry of the primitive trace (00_scope.md R10): a micro-operation with its argument, and the value a
sample returned. -/
inductive MicroOp where
  | dir (d : Direction)
  | lvl (v : Bool)
  | smp (v : Bool)
  | dly (i : Config.Interval)
  | csEnter
  | csExit (p : Bool)
  deriving DecidableEq, Repr

/-- The host-writable operand registers (R58, numbers 0 to 4). -/
inductive HostReg where
  | opsel | devaddr | offset | length | statusW
  deriving DecidableEq, Repr

/-- What the host does at one step. -/
inductive HostMove where
  /-- Nothing: the engine goes on by the largest instruction that begins where it stands (log 1). -/
  | wait
  /-- Nothing: the engine goes on by one step of the sequencer, a phase or a quarter of a slot (45_sequencer_fsm.md R256), so
  that a later move finds it inside an instruction. -/
  | tick
  /-- Pulse START and let the operation run (43_device_operations.md R204). -/
  | start
  /-- Pulse START alone: the engine goes to `DISPATCH` (45_sequencer_fsm.md R233). -/
  | startPulse
  /-- Write an operand register (R62). -/
  | writeReg (r : HostReg) (v : Nat)
  /-- Write `IE` (R52). -/
  | writeIe (v : Bool)
  /-- Write a byte of the buffer (R56). -/
  | writeBuf (index : Nat) (v : Byte)
  /-- Pulse `rst` (70_reset_and_hazards.md R290). -/
  | rst
  deriving DecidableEq, Repr

/-- The host buffer's contents: addresses strictly rising, no entry equal to the unlisted byte. -/
abbrev Memory := List Host.Cell

/-! ## Register groups (10_state.md R20) -/

/-- Line interface: `DIR` (R21), `LVL` (R22). -/
structure LineRegs where
  dir : Direction
  lvl : Bool
  deriving DecidableEq, Repr

/-- Slot engine: `SA`, `SB` (R24), `QTR` (R25), `TMR` (R26). -/
structure SlotRegs where
  sa : Bool
  sb : Bool
  qtr : Fin 4
  tmr : Nat
  deriving DecidableEq, Repr

/-- Frame engine: `SHR` (R27), `SLOT` (R28), `MAKB` (R29), `ACK` (R30). -/
structure FrameRegs where
  shr : Byte
  slot : Fin 10
  makb : Bool
  ack : Bool
  deriving DecidableEq, Repr

/-- `CMD[0..3]` (R31). -/
structure CmdBuf where
  c0 : Byte
  c1 : Byte
  c2 : Byte
  c3 : Byte
  deriving DecidableEq, Repr

/-- Transaction descriptor (R31, R32, R33). -/
structure DescRegs where
  cmd : CmdBuf
  cmdlen : BitVec 3
  cmdterm : Bool
  pdir : PayloadDir
  pbase : Half
  plen : Half
  lead : Lead
  deriving DecidableEq, Repr

/-- Host operands: `OPSEL` (R34), `DEVADDR` (R35), `OFFSET` (R36), `LENGTH` (R37), `STATUS_W` (R38). -/
structure OperandRegs where
  opsel : BitVec 4
  devaddr : Byte
  offset : Half
  length : Half
  statusW : Byte
  deriving DecidableEq, Repr

/-- Results: `SUCCESS` (R39), `STATUS_R` (R40), `BUSY` (R41), `DONE` (R42). -/
structure ResultRegs where
  success : Bool
  statusR : Byte
  busy : Bool
  done : Bool
  deriving DecidableEq, Repr

/-- Sequencer: `PHASE` (R43), `CUROP` (R44), `BYTEIDX` (R45), `OK` (R46). -/
structure SeqRegs where
  phase : Phase
  curop : CurOp
  byteidx : Half
  ok : Bool
  deriving DecidableEq, Repr

/-- Orchestrator: `CUR_ADDR` (R47), `CUR_PTR` (R48), `REM` (R49), `CHUNK` (R50). -/
structure OrchRegs where
  curAddr : Half
  curPtr : Half
  rem : Half
  chunk : BitVec 5
  deriving DecidableEq, Repr

/-- What the host owns and the engine reads and writes: `IE` (R52), `BUF` (R56) and its size `BUF_SIZE`
(00_scope.md R13), which no step changes. -/
structure HostSide where
  ie : Bool
  buf : Memory
  bufSize : Nat
  deriving DecidableEq, Repr

/-- The model's own: the inputs of the line environment and of the host (00_scope.md R8). `script` answers the next
samples, one entry a sample; when it is empty the answers are the free values `Config.lineDrive`, indexed by
`samples`, the count of samples taken. `moves` are the host's next moves, one a step. -/
structure Env where
  script : List Drive
  samples : Nat
  moves : List HostMove
  deriving DecidableEq, Repr

/-- The machine. -/
structure State where
  line : LineRegs
  slotE : SlotRegs
  frame : FrameRegs
  desc : DescRegs
  opnd : OperandRegs
  res : ResultRegs
  seq : SeqRegs
  orch : OrchRegs
  /-- `SAVED_IE` (R51). -/
  savedIe : Bool
  /-- `INITED` (R53). -/
  inited : Bool
  host : HostSide
  env : Env
  /-- The primitive trace (00_scope.md R10), newest entry first. -/
  trace : List MicroOp
  deriving DecidableEq, Repr

/-- After hardware reset (10_state.md R59, 70_reset_and_hazards.md R291): the line released, `LVL` high, nothing
busy, not initialised. DESIGN CHOICE (log 4, 5, 6): every register R59 leaves unspecified holds zero, `IE` is 0, the
buffer lists nothing; the parameter `BUF_SIZE` is the uninterpreted `Config.bufSize` (log 7). -/
def State.reset : State where
  line := { dir := .input, lvl := true }
  slotE := { sa := false, sb := false, qtr := 0, tmr := 0 }
  frame := { shr := 0, slot := 0, makb := false, ack := false }
  desc := { cmd := { c0 := 0, c1 := 0, c2 := 0, c3 := 0 }, cmdlen := 0, cmdterm := false, pdir := .none, pbase := 0,
            plen := 0, lead := .standby }
  opnd := { opsel := 0, devaddr := 0, offset := 0, length := 0, statusW := 0 }
  res := { success := false, statusR := 0, busy := false, done := false }
  seq := { phase := .idle, curop := .unused, byteidx := 0, ok := false }
  orch := { curAddr := 0, curPtr := 0, rem := 0, chunk := 0 }
  savedIe := false
  inited := false
  host := { ie := false, buf := [], bufSize := Config.bufSize }
  env := { script := [], samples := 0, moves := [] }
  trace := []

end Sys2Proof.Machine
end

