-- ==== Sys2Proof/Machine/Ops.lean ====
section
/-! DEFINITION. The named operations over the buffer, the registers and the line: the micro-operations of
40_bus_primitive.md R140 to R144 and 43_device_operations.md R190, R191; raising a failure and completing an
operation (60_exceptions.md R272, R273); START and hardware reset. Each operation writes one register group. -/

namespace Sys2Proof.Machine

/-! ## The host buffer (20_memory.md R70 to R72) -/

/-- What an unlisted byte of the buffer reads as. DESIGN CHOICE (log 6): the spec leaves `BUF` unspecified at reset. -/
def unlistedByte : Byte := 0#8

/-- `MemRead(i, 1)` (R71). -/
def memRead : Memory → Nat → Byte
  | [], _ => unlistedByte
  | (a, b) :: m, i => if a = i then b else memRead m i

/-- `MemWrite(i, 1, v)` (R72), keeping the canonical form. -/
def memWrite : Memory → Nat → Byte → Memory
  | [], i, v => if v = unlistedByte then [] else [(i, v)]
  | (a, b) :: m, i, v =>
    if i < a then (if v = unlistedByte then (a, b) :: m else (i, v) :: (a, b) :: m)
    else if i = a then (if v = unlistedByte then m else (i, v) :: m)
    else (a, b) :: memWrite m i v

/-- Addresses rise strictly from `lo` on and no entry is the unlisted byte. -/
def memWfFrom : Nat → Memory → Bool
  | _, [] => true
  | lo, (a, b) :: m => decide (lo ≤ a) && (b != unlistedByte) && memWfFrom (a + 1) m

/-- The canonical form of the buffer. -/
def Memory.wf (m : Memory) : Bool := memWfFrom 0 m

/-- Index of the payload byte being framed: `PBASE + BYTEIDX`, on naturals (10_state.md R56, 44_paged_write.md R229). -/
def payloadIndex (s : State) : Nat := s.desc.pbase.toNat + s.seq.byteidx.toNat

/-- The whole payload lies in the buffer: `PBASE + PLEN ≤ BUF_SIZE` (00_scope.md R13). -/
def payloadFits (s : State) : Bool := decide (s.desc.pbase.toNat + s.desc.plen.toNat ≤ s.host.bufSize)

/-- A write to the buffer. -/
def bufWrite (i : Nat) (v : Byte) (s : State) : State := { s with host := { s.host with buf := memWrite s.host.buf i v } }

/-! ## Micro-operations -/

/-- Append a micro-operation to the primitive trace (00_scope.md R10). -/
def emit (m : MicroOp) (s : State) : State := { s with trace := m :: s.trace }

/-- `DIR(d)` (R140). -/
def dirOp (d : Direction) (s : State) : State :=
  { s with line := { s.line with dir := d }, trace := .dir d :: s.trace }

/-- `LVL(v)` (R141): the latch only; never the direction. -/
def lvlOp (v : Bool) (s : State) : State := { s with line := { s.line with lvl := v }, trace := .lvl v :: s.trace }

/-- `TMR <- n × CLK_PER_US` (R144, R26). -/
def loadTimer (i : Config.Interval) (s : State) : State :=
  { s with slotE := { s.slotE with tmr := Config.micros i * Config.clkPerUs } }

/-- Waiting until `TMR = 0` (R144): nothing else changes. -/
def awaitTimer (s : State) : State := { s with slotE := { s.slotE with tmr := 0 } }

/-- `DLY(n)` (R144), `n` the effective value of the named interval; one indivisible entry of the trace (log 15). -/
def dly (i : Config.Interval) (s : State) : State := emit (.dly i) (awaitTimer (loadTimer i s))

/-- What the environment does at its `k`-th sample from now: the script's answer, or a free value when the script is
shorter (00_scope.md R8, log 2). -/
def envDrive (e : Env) (k : Nat) : Drive := e.script[k]?.getD (Config.lineDrive (e.samples + k))

/-- What the environment does `k` samples from now. -/
def driveAt (s : State) (k : Nat) : Drive := envDrive s.env k

/-- The wire level (R142, D5): the latch while the line is driven, unless the environment drives the opposite level,
when it is `contended`; on a released line the environment's level, else the pull-up. -/
def resolveWire (dir : Direction) (lvl : Bool) (d : Drive) (contended : Bool) : Bool :=
  match dir with
  | .output =>
    match d with
    | none => lvl
    | some b => if b = lvl then lvl else contended
  | .input => d.getD true

/-- The wire level at the next sample; under contention a free value (log 3). -/
def wireLevel (s : State) : Bool := resolveWire s.line.dir s.line.lvl (driveAt s 0) (Config.contention s.env.samples)

/-- One answer of the environment is used up. -/
def nextSample (s : State) : State :=
  { s with env := { s.env with script := s.env.script.tail, samples := s.env.samples + 1 } }

/-- `SA <- SMP` (R143, R145). -/
def sampleA (s : State) : State :=
  nextSample { s with slotE := { s.slotE with sa := wireLevel s }, trace := .smp (wireLevel s) :: s.trace }

/-- `SB <- SMP` (R143, R145). -/
def sampleB (s : State) : State :=
  nextSample { s with slotE := { s.slotE with sb := wireLevel s }, trace := .smp (wireLevel s) :: s.trace }

/-- `SAVED_IE <- CS_ENTER` (43_device_operations.md R190). -/
def csEnter (s : State) : State :=
  { s with savedIe := s.host.ie, host := { s.host with ie := false }, trace := .csEnter :: s.trace }

/-- `CS_EXIT(SAVED_IE)` (R191). -/
def csExit (s : State) : State :=
  { s with host := { s.host with ie := s.savedIe }, trace := .csExit s.savedIe :: s.trace }

/-! ## Register writes -/

/-- `QTR <- q` (10_state.md R25). -/
def setQtr (q : Fin 4) (s : State) : State := { s with slotE := { s.slotE with qtr := q } }

/-- `SLOT <- k` (R28). -/
def setSlot (k : Fin 10) (s : State) : State := { s with frame := { s.frame with slot := k } }

/-- `SHR <- b` (R27). -/
def setShr (b : Byte) (s : State) : State := { s with frame := { s.frame with shr := b } }

/-- `MAKB <- m` (R29). -/
def setMakb (m : Bool) (s : State) : State := { s with frame := { s.frame with makb := m } }

/-- `ACK <- a` (R30). -/
def setAck (a : Bool) (s : State) : State := { s with frame := { s.frame with ack := a } }

/-- `SHR <- SHR[6:0] ++ b` (R27). -/
def shiftIn (b : Bool) (s : State) : State := setShr (s.frame.shr.extractLsb' 0 7 ++ BitVec.ofBool b) s

/-- `BYTEIDX <- n` (R45), truncated to 16 bits. -/
def setByteidx (n : Nat) (s : State) : State := { s with seq := { s.seq with byteidx := BitVec.ofNat 16 n } }

/-- `OK <- b` (R46). -/
def setOk (b : Bool) (s : State) : State := { s with seq := { s.seq with ok := b } }

/-- `PHASE <- p` (R43). -/
def setPhase (p : Phase) (s : State) : State := { s with seq := { s.seq with phase := p } }

/-- `CUROP <- op` (R44). -/
def setCurop (op : DevOp) (s : State) : State := { s with seq := { s.seq with curop := .op op } }

/-- Load the transaction descriptor (R31 to R33). -/
def setDesc (d : DescRegs) (s : State) : State := { s with desc := d }

/-- Write the orchestrator registers (R47 to R50). -/
def setOrch (o : OrchRegs) (s : State) : State := { s with orch := o }

/-- `STATUS_R <- b` (R40). -/
def setStatusR (b : Byte) (s : State) : State := { s with res := { s.res with statusR := b } }

/-- `INITED <- 1` (R53). -/
def setInited (s : State) : State := { s with inited := true }

/-- Write the host operand registers (R34 to R38). -/
def setOperands (o : OperandRegs) (s : State) : State := { s with opnd := o }

/-! ## Failure, completion, START, reset -/

/-- The failures of 60_exceptions.md R260 and R261 and the two refused requests of R263. They carry no code (R262). -/
inductive Failure where
  | ackFail | pageViolation | reservedCode | notInitialised
  deriving DecidableEq, Repr

/-- Raising a failure (R272, "trap entry"): `OK <- 0`, and nothing records which failure it was (R262, R264). What
remains of the abort path is the exit of the critical section where one was entered (`csExit`, on every path, R214)
and `complete`. -/
def raise (_ : Failure) (s : State) : State := setOk false s

/-- Completion (43_device_operations.md R205, 60_exceptions.md R273, "trap return"): `SUCCESS <- OK`, `DONE <- 1`,
`BUSY <- 0`, `PHASE <- IDLE`, in one step. -/
def complete (s : State) : State :=
  { s with res := { s.res with success := s.seq.ok, done := true, busy := false }, seq := { s.seq with phase := .idle } }

/-- START of a presented request (R204, 45_sequencer_fsm.md R233, and `OK <- 1` of R234): `load` is the host's writing
of the operand registers. -/
def start (load : OperandRegs → OperandRegs) (s : State) : State :=
  { s with
    opnd := load s.opnd
    res := { s.res with busy := true, done := false }
    seq := { s.seq with phase := .dispatch, ok := true } }

/-- START alone (45_sequencer_fsm.md R233): `BUSY <- 1`, `DONE <- 0`, `PHASE <- DISPATCH`. -/
def pulseStart (s : State) : State :=
  { s with res := { s.res with busy := true, done := false }, seq := { s.seq with phase := .dispatch } }

/-- Hardware reset (70_reset_and_hazards.md R290): every engine register takes its reset value, the operation in
progress is abandoned without `CS_EXIT`, `IE` and the buffer stay. The environment's inputs and the trace go on. -/
def hardReset (s : State) : State := { State.reset with host := s.host, env := s.env, trace := s.trace }

/-- Running on after an outcome that is a next state. -/
def andThen (o : Host.Outcome State Fault Refusal) (f : State → Host.Outcome State Fault Refusal) :
    Host.Outcome State Fault Refusal :=
  match o with
  | .next s => f s
  | .fault r => .fault r
  | .refused r => .refused r

end Sys2Proof.Machine
end

