-- ==== Sys2Proof/Machine/Flags.lean ====
section
/-! DEFINITION. Every value the engine computes from samples, counters and addresses: the decoded bit of a slot, the
MAK bit of a frame, the write-in-progress test, the page rule, the chunk law (10_state.md R61, 44_paged_write.md R229). -/

namespace Sys2Proof.Machine

/-- The observed value of a slot, `SB ∧ ¬SA` (10_state.md R24, 30_encoding.md R102). -/
def observed (s : State) : Bool := s.slotE.sb && !s.slotE.sa

/-- `SHR[7]`, the bit a transmitted data slot carries (R27). -/
def topBit (s : State) : Bool := s.frame.shr.getLsbD 7

/-- MAK of frame `i` of `n` sent frames: every frame but a last one that terminates (41_byte_framing.md R162). -/
def makSend (i n : Nat) (terminate : Bool) : Bool := !((i + 1 == n) && terminate)

/-- MAK of frame `i` of `n` received frames: every frame but the last (R163). -/
def makReceive (i n : Nat) : Bool := !(i + 1 == n)

/-- The WIP bit: bit 0 of `STATUS_R`, 1 while a device write is in progress (30_encoding.md R119). -/
def wip (s : State) : Bool := s.res.statusR.getLsbD 0

/-- The page rule on naturals: `(addr mod 16) + n ≤ 16` (20_memory.md R77, 43_device_operations.md R196). -/
def fitsPage (addr : Half) (n : Nat) : Bool := decide (addr.toNat % Config.pageSize + n ≤ Config.pageSize)

/-- The chunk law: `min(REM, 16 - (CUR_ADDR mod 16))` (44_paged_write.md R221). -/
def chunkLength (rem addr : Half) : Nat := min rem.toNat (Config.pageSize - addr.toNat % Config.pageSize)

/-- `CHUNK <- min(REM, 16 - (CUR_ADDR mod 16))` (R220, 45_sequencer_fsm.md R249). -/
def takeChunk (s : State) : State :=
  setOrch { s.orch with chunk := BitVec.ofNat 5 (chunkLength s.orch.rem s.orch.curAddr) } s

/-- The advance past a chunk: `CUR_ADDR` modulo 2^16, `CUR_PTR` up, `REM` down (44_paged_write.md R220, R226,
45_sequencer_fsm.md R250). -/
def advanceChunk (s : State) : State :=
  setOrch { s.orch with
    curAddr := s.orch.curAddr + s.orch.chunk.setWidth 16
    curPtr := s.orch.curPtr + s.orch.chunk.setWidth 16
    rem := s.orch.rem - s.orch.chunk.setWidth 16 } s

end Sys2Proof.Machine
end

