-- ==== Sys2Proof/Machine/Operands.lean ====
section
/-! DEFINITION. Every operand form: the operand registers of a request, the descriptor row each device operation
loads (43_device_operations.md R201), the bytes of the command buffer, the register numbers (10_state.md R58). -/

namespace Sys2Proof.Machine

/-! ## Command buffer -/

/-- `CMD[i]`; there are four (10_state.md R31). -/
def cmdByte (c : CmdBuf) : Nat → Byte
  | 0 => c.c0
  | 1 => c.c1
  | 2 => c.c2
  | _ => c.c3

/-- The command bytes, `CMD[0]` to `CMD[CMDLEN - 1]`. -/
def cmdBytes (d : DescRegs) : List Byte := [d.cmd.c0, d.cmd.c1, d.cmd.c2, d.cmd.c3].take d.cmdlen.toNat

/-! ## Descriptor rows (R201): a cell the table leaves open keeps its register (log 27) -/

/-- A command of format C2 with its payload. -/
def rowC2 (d : DescRegs) (dev op : Byte) (term : Bool) (pdir : PayloadDir) (plen : Half) : DescRegs :=
  { d with cmd := { d.cmd with c0 := dev, c1 := op }, cmdlen := 2, cmdterm := term, pdir := pdir, plen := plen }

/-- The command of format C3. -/
def rowC3 (d : DescRegs) (dev op status : Byte) : DescRegs :=
  { d with cmd := { d.cmd with c0 := dev, c1 := op, c2 := status }, cmdlen := 3, cmdterm := true, pdir := .none, plen := 0 }

/-- A command of format C4 with its payload. -/
def rowC4 (d : DescRegs) (dev op hi lo : Byte) (pdir : PayloadDir) (pbase plen : Half) : DescRegs :=
  { d with cmd := { c0 := dev, c1 := op, c2 := hi, c3 := lo }, cmdlen := 4, cmdterm := false, pdir := pdir, pbase := pbase,
           plen := plen }

/-- The byte count `n` of a WRITE: `LENGTH` for the host operation `start_write`, `CHUNK` inside `simple_write`
(45_sequencer_fsm.md R235). -/
def writeCount (s : State) : Half := if s.opnd.opsel = 8#4 then s.orch.chunk.setWidth 16 else s.opnd.length

/-- Row READ. -/
def descRead (s : State) (dev hi lo : Byte) : DescRegs := rowC4 s.desc dev Config.opcRead hi lo .rxBuf 0 s.opnd.length

/-- Row START_WRITE. -/
def descWrite (s : State) (dev hi lo : Byte) : DescRegs :=
  rowC4 s.desc dev Config.opcWrite hi lo .tx s.orch.curPtr (writeCount s)

/-- Row ENABLE_WRITE. -/
def descWren (s : State) (dev : Byte) : DescRegs := rowC2 s.desc dev Config.opcWren true .none 0

/-- Row DISABLE_WRITE. -/
def descWrdi (s : State) (dev : Byte) : DescRegs := rowC2 s.desc dev Config.opcWrdi true .none 0

/-- Rows READ_STATUS and AWAIT. -/
def descRdsr (s : State) (dev : Byte) : DescRegs := rowC2 s.desc dev Config.opcRdsr false .rxStatus 1

/-- Row WRITE_STATUS. -/
def descWrsr (s : State) (dev status : Byte) : DescRegs := rowC3 s.desc dev Config.opcWrsr status

/-- The row of a device operation, its operands from the registers. -/
def descRow (op : DevOp) (s : State) : DescRegs :=
  match op with
  | .read => descRead s s.opnd.devaddr (hiByte s.orch.curAddr) (loByte s.orch.curAddr)
  | .startWrite => descWrite s s.opnd.devaddr (hiByte s.orch.curAddr) (loByte s.orch.curAddr)
  | .enableWrite => descWren s s.opnd.devaddr
  | .disableWrite => descWrdi s s.opnd.devaddr
  | .readStatus => descRdsr s s.opnd.devaddr
  | .writeStatus => descWrsr s s.opnd.devaddr s.opnd.statusW
  | .await => descRdsr s s.opnd.devaddr

/-- `LEAD` of an operation: the gap for the polls, else the standby pulse (42_command_protocol.md R184). -/
def leadOf : DevOp → Lead
  | .await => .gap
  | .read | .startWrite | .enableWrite | .disableWrite | .readStatus | .writeStatus => .standby

/-- Entering a device operation (45_sequencer_fsm.md R235): `CUROP`, `LEAD` and the descriptor. -/
def enter (op : DevOp) (s : State) : State := setCurop op (setDesc { descRow op s with lead := leadOf op } s)

/-- The address operand of `read` and `start_write`: `CUR_ADDR <- OFFSET` (10_state.md R47). -/
def loadAddress (s : State) : State := setOrch { s.orch with curAddr := s.opnd.offset } s

/-- `CUR_ADDR <- OFFSET; CUR_PTR <- 0` (43_device_operations.md R195). -/
def loadWriteOperands (s : State) : State := setOrch { s.orch with curAddr := s.opnd.offset, curPtr := 0 } s

/-- `CUR_ADDR <- OFFSET; CUR_PTR <- 0; REM <- LENGTH` (44_paged_write.md R220). -/
def loadPagedOperands (s : State) : State :=
  setOrch { s.orch with curAddr := s.opnd.offset, curPtr := 0, rem := s.opnd.length } s

/-! ## Request registers -/

/-- The request word of the operand registers (30_encoding.md R124). -/
def requestWord (o : OperandRegs) : List Byte := requestBytes o.opsel o.devaddr o.offset o.length o.statusW

/-- The host presents a request (30_encoding.md R114): its code in `OPSEL` and its operands in the registers it reads; the
other registers keep their values (R120). -/
def present (i : Instr) (o : OperandRegs) : OperandRegs :=
  match i with
  | .init => { o with opsel := 0 }
  | .read dev offset length => { o with opsel := 1, devaddr := dev, offset := offset, length := length }
  | .startWrite dev offset length => { o with opsel := 2, devaddr := dev, offset := offset, length := length }
  | .enableWrite dev => { o with opsel := 3, devaddr := dev }
  | .disableWrite dev => { o with opsel := 4, devaddr := dev }
  | .readStatus dev => { o with opsel := 5, devaddr := dev }
  | .writeStatus dev status => { o with opsel := 6, devaddr := dev, statusW := status }
  | .awaitWriteComplete dev => { o with opsel := 7, devaddr := dev }
  | .simpleWrite dev offset length => { o with opsel := 8, devaddr := dev, offset := offset, length := length }
  | .reserved9 => { o with opsel := 9 }
  | .reserved10 => { o with opsel := 10 }
  | .reserved11 => { o with opsel := 11 }
  | .reserved12 => { o with opsel := 12 }
  | .reserved13 => { o with opsel := 13 }
  | .reserved14 => { o with opsel := 14 }
  | .reserved15 => { o with opsel := 15 }
  | .wireRead .. | .wireWrite .. | .wireWren .. | .wireWrdi .. | .wireRdsr .. | .wireWrsr .. | .crrd | .eral | .setal
  | .startHeader | .bit1 | .bit0 => o

/-- A host write to an operand register: truncated to its width (10_state.md R58). -/
def writeReg (r : HostReg) (v : Nat) (o : OperandRegs) : OperandRegs :=
  match r with
  | .opsel => { o with opsel := BitVec.ofNat 4 v }
  | .devaddr => { o with devaddr := BitVec.ofNat 8 v }
  | .offset => { o with offset := BitVec.ofNat 16 v }
  | .length => { o with length := BitVec.ofNat 16 v }
  | .statusW => { o with statusW := BitVec.ofNat 8 v }

/-! ## Codes and register numbers -/

/-- `DIR` as a bit (R21). -/
def Direction.code : Direction → Nat
  | .input => 0
  | .output => 1

/-- `PDIR` codes (R32). -/
def PayloadDir.code : PayloadDir → Nat
  | .none => 0
  | .tx => 1
  | .rxBuf => 2
  | .rxStatus => 3

/-- `LEAD` codes (R33). -/
def Lead.code : Lead → Nat
  | .standby => 0
  | .gap => 1

/-- `CUROP` codes (45_sequencer_fsm.md R232). -/
def CurOp.code : CurOp → Nat
  | .unused => 0
  | .op .read => 1
  | .op .startWrite => 2
  | .op .enableWrite => 3
  | .op .disableWrite => 4
  | .op .readStatus => 5
  | .op .writeStatus => 6
  | .op .await => 7

/-- `PHASE` codes (R231). -/
def Phase.code : Phase → Nat
  | .idle => 0
  | .dispatch => 1
  | .precheck => 2
  | .stbyLow => 3
  | .stbyHigh => 4
  | .gap => 5
  | .csEnter => 6
  | .hdrHold => 7
  | .hdrFrame => 8
  | .cmdFrame => 9
  | .txFrame => 10
  | .rxFrame => 11
  | .csExit => 12
  | .pollTest => 13
  | .chunkCalc => 14
  | .chunkAdv => 15
  | .initDo => 16
  | .finish => 17

/-- `R(n)`: the register of number `n` (10_state.md R58); `CMD` reads as `CMD[0] ++ CMD[1] ++ CMD[2] ++ CMD[3]`. -/
def regRead (s : State) : Nat → Option Nat
  | 0 => some s.opnd.opsel.toNat
  | 1 => some s.opnd.devaddr.toNat
  | 2 => some s.opnd.offset.toNat
  | 3 => some s.opnd.length.toNat
  | 4 => some s.opnd.statusW.toNat
  | 5 => some s.res.success.toNat
  | 6 => some s.res.statusR.toNat
  | 7 => some s.res.busy.toNat
  | 8 => some s.res.done.toNat
  | 9 => some s.inited.toNat
  | 10 => some s.line.dir.code
  | 11 => some s.line.lvl.toNat
  | 12 => some s.seq.phase.code
  | 13 => some s.seq.curop.code
  | 14 => some s.seq.byteidx.toNat
  | 15 => some s.seq.ok.toNat
  | 16 => some s.desc.lead.code
  | 17 => some (natOfBytes [s.desc.cmd.c0, s.desc.cmd.c1, s.desc.cmd.c2, s.desc.cmd.c3])
  | 18 => some s.desc.cmdlen.toNat
  | 19 => some s.desc.cmdterm.toNat
  | 20 => some s.desc.pdir.code
  | 21 => some s.desc.pbase.toNat
  | 22 => some s.desc.plen.toNat
  | 23 => some s.frame.shr.toNat
  | 24 => some s.frame.slot.val
  | 25 => some s.frame.makb.toNat
  | 26 => some s.frame.ack.toNat
  | 27 => some s.slotE.sa.toNat
  | 28 => some s.slotE.sb.toNat
  | 29 => some s.slotE.qtr.val
  | 30 => some s.slotE.tmr
  | 31 => some s.orch.curAddr.toNat
  | 32 => some s.orch.curPtr.toNat
  | 33 => some s.orch.rem.toNat
  | 34 => some s.orch.chunk.toNat
  | 35 => some s.savedIe.toNat
  | _ => none

/-- What the host reads: registers 0 to 11 (R58, column "host"). Reading changes nothing. -/
def hostRead (s : State) (n : Nat) : Option Nat := if n ≤ 11 then regRead s n else none

end Sys2Proof.Machine
end

