-- ==== Sys2Proof/Machine/Bus.lean ====
section
/-! DEFINITION. Bus Primitive Layer (40_bus_primitive.md): one bit slot, by its four quarters; the slot codes BIT1 and
BIT0 of the opcode table. -/

namespace Sys2Proof.Machine

/-- Quarter `q` of a slot that carries `w` (R145, R152): quarters 0 and 2 set the level, wait and sample; quarters 1
and 3 wait. `QTR` ends at the next quarter, after the last at 0. -/
def quarter (w : Bool) (q : Fin 4) (s : State) : State :=
  match q with
  | 0 => setQtr 1 (sampleA (dly .quarter (lvlOp (!w) (setQtr 0 s))))
  | 1 => setQtr 2 (dly .quarter s)
  | 2 => setQtr 3 (sampleB (dly .quarter (lvlOp w s)))
  | 3 => setQtr 0 (dly .quarter s)

/-- `exchange_bit(w)` (R145); the bit it returns is `observed` of the result. -/
def exchangeBit (w : Bool) (s : State) : State := quarter w 3 (quarter w 2 (quarter w 1 (quarter w 0 s)))

/-- `read_one_bit()` (R147); the bit it returns is `observed` of the result. -/
def readOneBit (s : State) : State := dirOp .output (exchangeBit true (dirOp .input s))

/-- BIT1: the slot of a logical 1 (30_encoding.md R101). -/
def execBit1 (s : State) : Host.Outcome State Fault Refusal := .next (exchangeBit true s)

/-- BIT0: the slot of a logical 0 (R101). -/
def execBit0 (s : State) : Host.Outcome State Fault Refusal := .next (exchangeBit false s)

end Sys2Proof.Machine
end

