-- ==== Sys2Proof/Machine/Framing.lean ====
section
/-! DEFINITION. Byte Framing Layer (41_byte_framing.md): one frame in each direction, and runs of frames. -/

namespace Sys2Proof.Machine

/-- The data slots of a frame, in order (30_encoding.md R103). -/
def dataSlots : List (Fin 10) := [0, 1, 2, 3, 4, 5, 6, 7]

/-- A transmitted data slot: `exchange_bit(SHR[7])`, result discarded, then the shift (R160). -/
def sendSlot (s : State) (k : Fin 10) : State :=
  let t := setSlot k s
  shiftIn false (exchangeBit (topBit t) t)

/-- A received data slot: `b <- exchange_bit(1)`, then the shift (R161). -/
def receiveSlot (s : State) (k : Fin 10) : State :=
  let t := exchangeBit true (setSlot k s)
  shiftIn (observed t) t

/-- Slot 8, `exchange_bit(MAKB)`, result discarded (R160, R161). -/
def makSlot (s : State) : State :=
  let t := setSlot 8 s
  exchangeBit t.frame.makb t

/-- Slot 9, `ACK <- read_one_bit()` (R160, R161). -/
def sakSlot (s : State) : State :=
  let t := readOneBit (setSlot 9 s)
  setAck (observed t) t

/-- `send_byte(value, more_follows)` (R160); the acknowledgment it returns is `ACK`. -/
def sendByte (value : Byte) (more : Bool) (s : State) : State :=
  sakSlot (makSlot (dataSlots.foldl sendSlot (setMakb more (setShr value s))))

/-- Where a received byte goes (R169): the buffer for `RX_BUF`, `STATUS_R` for `RX_STATUS`. -/
def storeReceived (s : State) : State :=
  match s.desc.pdir with
  | .rxBuf => bufWrite (payloadIndex s) s.frame.shr s
  | .rxStatus => setStatusR s.frame.shr s
  | .none | .tx => s

/-- `receive_byte(more_follows)` with its store (R161, R169); the value stored is `SHR`, the acknowledgment `ACK`. -/
def receiveByte (more : Bool) (s : State) : State :=
  sakSlot (makSlot (storeReceived (dirOp .output (dataSlots.foldl receiveSlot (dirOp .input (setMakb more s))))))

/-- `send_buffer(data, n, terminate_at_end)` (R162) with `left` of the `n` frames still to send; a data byte is read when
its frame starts. The first frame without acknowledgment ends it. -/
def sendBuffer (data : State → Nat → Byte) (n : Nat) (terminate : Bool) : Nat → State → State
  | 0, s => s
  | left + 1, s =>
    let i := n - (left + 1)
    let t := setByteidx i s
    let u := sendByte (data t i) (makSend i n terminate) t
    if u.frame.ack then sendBuffer data n terminate left u else raise .ackFail u

/-- `receive_buffer(n)` (R163) with `left` of the `n` frames still to receive. -/
def receiveBuffer (n : Nat) : Nat → State → State
  | 0, s => s
  | left + 1, s =>
    let i := n - (left + 1)
    let u := receiveByte (makReceive i n) (setByteidx i s)
    if u.frame.ack then receiveBuffer n left u else raise .ackFail u

end Sys2Proof.Machine
end

