-- ==== Sys2Proof/Machine/Protocol.lean ====
section
/-! DEFINITION. Command Protocol Layer (42_command_protocol.md): standby pulse, inter-command gap, start header. -/

namespace Sys2Proof.Machine

/-- `standby_pulse()` (R180). -/
def standbyPulse (s : State) : State := dly .stby (lvlOp true (dly .setup (lvlOp false s)))

/-- `inter_command_gap()` (R181). -/
def interCommandGap (s : State) : State := dly .gap (lvlOp true s)

/-- `start_header()` (R182, R183): the header hold, then the frame 0x55 with MAK, its acknowledgment ignored. -/
def startHeader (s : State) : State := sendByte Config.startHeader true (dly .hdr (lvlOp false s))

/-- START_HEADER (30_encoding.md R106). -/
def execStartHeader (s : State) : Host.Outcome State Fault Refusal := .next (startHeader s)

end Sys2Proof.Machine
end

