-- ==== Sys2Proof/Machine/Wire.lean ====
section
/-! DEFINITION. The wire commands (30_encoding.md R107, R108): the command frames and the payload frames that follow a
start header. As an instruction, a wire command loads its row of 43_device_operations.md R201 with its own bytes
and sends it; in a transaction `enter` has loaded the same row (log 17). -/

namespace Sys2Proof.Machine

/-- The payload of a command (43_device_operations.md R192). -/
def payload (s : State) : State :=
  match s.desc.pdir with
  | .none => s
  | .tx => sendBuffer (fun t i => memRead t.host.buf (t.desc.pbase.toNat + i)) s.desc.plen.toNat true s.desc.plen.toNat s
  | .rxBuf | .rxStatus => receiveBuffer s.desc.plen.toNat s.desc.plen.toNat s

/-- The frames of a wire command (R192): command bytes, then payload; the first missing acknowledgment ends it. `OK` is 1
on entry and tells the two apart. -/
def exchange (s : State) : State :=
  let t := sendBuffer (fun u i => cmdByte u.desc.cmd i) s.desc.cmdlen.toNat s.desc.cmdterm s.desc.cmdlen.toNat s
  if t.seq.ok then payload (setByteidx 0 t) else t

/-- A wire command with the descriptor `d`: its frames, `OK` starting at 1 (R192). -/
def sendCommand (d : DescRegs) (s : State) : State := exchange (setOk true (setDesc d s))

/-- A wire command whose payload is in the buffer: refused where the payload does not fit it (20_memory.md R71). -/
def sendBufferedCommand (d : DescRegs) (s : State) : Host.Outcome State Fault Refusal :=
  if payloadFits (setDesc d s) then .next (sendCommand d s)
  else .refused (.bufferRange (d.pbase.toNat + d.plen.toNat - 1))

/-- READ (R194, R108): four command frames, then `LENGTH` received frames. -/
def execWireRead (dev hi lo : Byte) (s : State) : Host.Outcome State Fault Refusal :=
  sendBufferedCommand (descRead s dev hi lo) s

/-- WRITE (R195, R108): four command frames, then the `n` transmitted frames of R235. -/
def execWireWrite (dev hi lo : Byte) (s : State) : Host.Outcome State Fault Refusal :=
  sendBufferedCommand (descWrite s dev hi lo) s

/-- WREN (R197, R108): two command frames, the second with NoMAK. -/
def execWireWren (dev : Byte) (s : State) : Host.Outcome State Fault Refusal := .next (sendCommand (descWren s dev) s)

/-- WRDI (R198, R108): two command frames, the second with NoMAK. -/
def execWireWrdi (dev : Byte) (s : State) : Host.Outcome State Fault Refusal := .next (sendCommand (descWrdi s dev) s)

/-- RDSR (R199, R108): two command frames, then one received frame into `STATUS_R`. -/
def execWireRdsr (dev : Byte) (s : State) : Host.Outcome State Fault Refusal := .next (sendCommand (descRdsr s dev) s)

/-- WRSR (R200, R108): three command frames, the third with NoMAK. -/
def execWireWrsr (dev status : Byte) (s : State) : Host.Outcome State Fault Refusal :=
  .next (sendCommand (descWrsr s dev status) s)

/-- CRRD: a reserved opcode, no meaning (R111). -/
def execCrrd (_ : State) : Host.Outcome State Fault Refusal := .refused (.reservedOpcode Config.opcCrrd)

/-- ERAL: a reserved opcode, no meaning (R111). -/
def execEral (_ : State) : Host.Outcome State Fault Refusal := .refused (.reservedOpcode Config.opcEral)

/-- SETAL: a reserved opcode, no meaning (R111). -/
def execSetal (_ : State) : Host.Outcome State Fault Refusal := .refused (.reservedOpcode Config.opcSetal)

end Sys2Proof.Machine
end

