-- ==== Sys2Proof/Machine/Device.lean ====
section
/-! DEFINITION. Device Operation Layer (43_device_operations.md): the transaction, the host operations but
`simple_write`, and the reserved requests. A host operation runs from START to its completion, or to where the
completion poll turns back to another poll with the environment's script used up (log 19). -/

namespace Sys2Proof.Machine

/-- The lead of a transaction (R192). -/
def leadIn (s : State) : State :=
  match s.desc.lead with
  | .standby => standbyPulse s
  | .gap => interCommandGap s

/-- `transaction()` (R192): its result is `OK`. The critical section is left on both paths (R214). -/
def transaction (s : State) : State := csExit (exchange (startHeader (csEnter (leadIn (setOk true s)))))

/-- A request is started: ignored while `BUSY = 1` (R212); refused before `init` has run, which completes at once with
`SUCCESS = 0` and no bus activity (R211, 45_sequencer_fsm.md R234; log 10); else its operation runs. -/
def hostRequest (i : Instr) (operation : State → Host.Outcome State Fault Refusal) (s : State) :
    Host.Outcome State Fault Refusal :=
  if s.res.busy then .next s
  else if s.inited then operation (start (present i) s)
  else .next (complete (raise .notInitialised (start (present i) s)))

/-- `init()` (R193, R251): needs no earlier `init`. -/
def execInit (s : State) : Host.Outcome State Fault Refusal :=
  if s.res.busy then .next s
  else .next (complete (setInited (dirOp .output (lvlOp true (start (present .init) s)))))

/-- The procedure of `read` (R194). -/
def runRead (s : State) : Host.Outcome State Fault Refusal :=
  let t := enter .read (loadAddress s)
  if payloadFits t then .next (complete (transaction t))
  else .refused (.bufferRange (t.desc.plen.toNat - 1))

/-- `read(dev, offset, length)`. -/
def execRead (dev : Byte) (offset length : Half) (s : State) : Host.Outcome State Fault Refusal :=
  hostRequest (.read dev offset length) runRead s

/-- The procedure of `start_write` (R195): the page pre-check before anything else (R196). -/
def runStartWrite (s : State) : Host.Outcome State Fault Refusal :=
  let t := enter .startWrite (loadWriteOperands s)
  if fitsPage t.orch.curAddr t.desc.plen.toNat then
    (if payloadFits t then .next (complete (transaction t)) else .refused (.bufferRange (t.desc.plen.toNat - 1)))
  else .next (complete (raise .pageViolation t))

/-- `start_write(dev, offset, BUF[0 .. length-1])`. -/
def execStartWrite (dev : Byte) (offset length : Half) (s : State) : Host.Outcome State Fault Refusal :=
  hostRequest (.startWrite dev offset length) runStartWrite s

/-- The procedure of the operations without pre-check and buffer (R197 to R200). -/
def runPlain (op : DevOp) (s : State) : Host.Outcome State Fault Refusal := .next (complete (transaction (enter op s)))

/-- `enable_write(dev)` (R197). -/
def execEnableWrite (dev : Byte) (s : State) : Host.Outcome State Fault Refusal :=
  hostRequest (.enableWrite dev) (runPlain .enableWrite) s

/-- `disable_write(dev)` (R198). -/
def execDisableWrite (dev : Byte) (s : State) : Host.Outcome State Fault Refusal :=
  hostRequest (.disableWrite dev) (runPlain .disableWrite) s

/-- `read_status(dev)` (R199). -/
def execReadStatus (dev : Byte) (s : State) : Host.Outcome State Fault Refusal :=
  hostRequest (.readStatus dev) (runPlain .readStatus) s

/-- `write_status(dev, status)` (R200). -/
def execWriteStatus (dev status : Byte) (s : State) : Host.Outcome State Fault Refusal :=
  hostRequest (.writeStatus dev status) (runPlain .writeStatus) s

/-! ## Completion poll (R206, R207) -/

/-- The opening: enter `AWAIT`, one standby pulse outside any critical section (R206). -/
def awaitOpen (s : State) : State :=
  let t := enter .await s
  if Config.awaitLeadingStandby then standbyPulse t else t

/-- The poll loop (R207): transactions until one fails, or reports WIP = 0, or `fuel` of them have run. -/
def pollLoop : Nat → State → State
  | 0, s => s
  | fuel + 1, s =>
    let t := transaction s
    if t.seq.ok && wip t then pollLoop fuel t else t

/-- How many polls one step runs at most: as many as begin before the script is used up, and one in any case. A poll that
another one follows uses up eighty answers, so a step stops between two polls only with the script used up (log 19). -/
def pollFuel (s : State) : Nat := max 1 ((s.env.script.length + 79) / 80)

/-- The opening and the loop. -/
def runPolls (s : State) : State :=
  let t := awaitOpen s
  pollLoop (pollFuel t) t

/-- The poll loop has not ended: the device still reports a write in progress (R207, R278). -/
def stillPolling (s : State) : Bool := s.seq.ok && wip s

/-- Between two polls: `BUSY` stays 1 and the next thing to do is another gap and poll (R207, R248). -/
def suspend (s : State) : State := setPhase .gap s

/-- The procedure of `await_write_complete`. -/
def runAwait (s : State) : Host.Outcome State Fault Refusal :=
  let t := runPolls s
  .next (if stillPolling t then suspend t else complete t)

/-- `await_write_complete(dev)` (R206, R207). -/
def execAwaitWriteComplete (dev : Byte) (s : State) : Host.Outcome State Fault Refusal :=
  hostRequest (.awaitWriteComplete dev) runAwait s

/-! ## Reserved requests (30_encoding.md R115): completion at once, `SUCCESS = 0`, no bus activity (log 9) -/

/-- A request with a reserved code, whether or not `init` has run (45_sequencer_fsm.md R234). -/
def reservedRequest (i : Instr) (s : State) : Host.Outcome State Fault Refusal :=
  if s.res.busy then .next s
  else .next (complete (raise .reservedCode (start (present i) s)))

/-- `OPSEL = 9`. -/
def execReserved9 (s : State) : Host.Outcome State Fault Refusal := reservedRequest .reserved9 s

/-- `OPSEL = 10`. -/
def execReserved10 (s : State) : Host.Outcome State Fault Refusal := reservedRequest .reserved10 s

/-- `OPSEL = 11`. -/
def execReserved11 (s : State) : Host.Outcome State Fault Refusal := reservedRequest .reserved11 s

/-- `OPSEL = 12`. -/
def execReserved12 (s : State) : Host.Outcome State Fault Refusal := reservedRequest .reserved12 s

/-- `OPSEL = 13`. -/
def execReserved13 (s : State) : Host.Outcome State Fault Refusal := reservedRequest .reserved13 s

/-- `OPSEL = 14`. -/
def execReserved14 (s : State) : Host.Outcome State Fault Refusal := reservedRequest .reserved14 s

/-- `OPSEL = 15`. -/
def execReserved15 (s : State) : Host.Outcome State Fault Refusal := reservedRequest .reserved15 s

end Sys2Proof.Machine
end

