-- ==== Sys2Proof/Machine/Paged.lean ====
section
/-! DEFINITION. Paged Write Orchestrator (44_paged_write.md): `simple_write`. -/

namespace Sys2Proof.Machine

/-- One chunk up to its completion poll (R220): `enable_write`, then `start_write` with its pre-check, then the polls;
the first failing step ends it, `OK` then being 0. -/
def runChunk (s : State) : State :=
  let t := transaction (enter .enableWrite (takeChunk s))
  if t.seq.ok then
    let u := enter .startWrite t
    if fitsPage u.orch.curAddr u.desc.plen.toNat then
      let v := transaction u
      if v.seq.ok then runPolls v else v
    else raise .pageViolation u
  else t

/-- The chunk loop (R220): every chunk is at least one byte, so `fuel` above `REM` never ends it. A completion poll that
has not ended suspends the operation (log 19). -/
def chunkLoop : Nat → State → State
  | 0, s => complete s
  | fuel + 1, s =>
    if s.orch.rem = 0 then complete s
    else
      let t := runChunk s
      if !t.seq.ok then complete t
      else if wip t then suspend t
      else chunkLoop fuel (advanceChunk t)

/-- The procedure of `simple_write`; refused where its bytes do not fit the buffer (20_memory.md R71). -/
def runSimpleWrite (s : State) : Host.Outcome State Fault Refusal :=
  let t := loadPagedOperands s
  if t.opnd.length.toNat ≤ t.host.bufSize then .next (chunkLoop (t.orch.rem.toNat + 1) t)
  else .refused (.bufferRange (t.opnd.length.toNat - 1))

/-- `simple_write(dev, offset, BUF[0 .. length-1])` (R220 to R226). -/
def execSimpleWrite (dev : Byte) (offset length : Half) (s : State) : Host.Outcome State Fault Refusal :=
  hostRequest (.simpleWrite dev offset length) runSimpleWrite s

end Sys2Proof.Machine
end

