-- ==== Sys2Proof/Machine/Dispatch.lean ====
section
/-! DEFINITION. One arm per instruction, one direct call of its meaning. -/

namespace Sys2Proof.Machine

def exec (i : Instr) (s : State) : Host.Outcome State Fault Refusal :=
  match i with
  | .init => Sys2Proof.Machine.execInit s
  | .read dev offset length => Sys2Proof.Machine.execRead dev offset length s
  | .startWrite dev offset length => Sys2Proof.Machine.execStartWrite dev offset length s
  | .enableWrite dev => Sys2Proof.Machine.execEnableWrite dev s
  | .disableWrite dev => Sys2Proof.Machine.execDisableWrite dev s
  | .readStatus dev => Sys2Proof.Machine.execReadStatus dev s
  | .writeStatus dev status => Sys2Proof.Machine.execWriteStatus dev status s
  | .awaitWriteComplete dev => Sys2Proof.Machine.execAwaitWriteComplete dev s
  | .simpleWrite dev offset length => Sys2Proof.Machine.execSimpleWrite dev offset length s
  | .reserved9 => Sys2Proof.Machine.execReserved9 s
  | .reserved10 => Sys2Proof.Machine.execReserved10 s
  | .reserved11 => Sys2Proof.Machine.execReserved11 s
  | .reserved12 => Sys2Proof.Machine.execReserved12 s
  | .reserved13 => Sys2Proof.Machine.execReserved13 s
  | .reserved14 => Sys2Proof.Machine.execReserved14 s
  | .reserved15 => Sys2Proof.Machine.execReserved15 s
  | .wireRead dev hi lo => Sys2Proof.Machine.execWireRead dev hi lo s
  | .wireWrite dev hi lo => Sys2Proof.Machine.execWireWrite dev hi lo s
  | .wireWren dev => Sys2Proof.Machine.execWireWren dev s
  | .wireWrdi dev => Sys2Proof.Machine.execWireWrdi dev s
  | .wireRdsr dev => Sys2Proof.Machine.execWireRdsr dev s
  | .wireWrsr dev status => Sys2Proof.Machine.execWireWrsr dev status s
  | .crrd => Sys2Proof.Machine.execCrrd s
  | .eral => Sys2Proof.Machine.execEral s
  | .setal => Sys2Proof.Machine.execSetal s
  | .startHeader => Sys2Proof.Machine.execStartHeader s
  | .bit1 => Sys2Proof.Machine.execBit1 s
  | .bit0 => Sys2Proof.Machine.execBit0 s

end Sys2Proof.Machine
end

