-- ==== Sys2Proof/Machine/Sequencer.lean ====
section
/-! DEFINITION. The sequencer as a state machine (45_sequencer_fsm.md): one phase per step, one quarter per step inside
a frame. `PHASE`, `CUROP`, `BYTEIDX`, `SLOT` and `QTR` say what comes next (R230). The procedures of the other files
are the normative form (R253); this one shares their micro-operations, flags and descriptor rows. -/

namespace Sys2Proof.Machine

/-! ## Frame sub-steps (R246, R170) -/

/-- The four phases that run a frame (R242 to R245). -/
def isFramePhase : Phase → Bool
  | .hdrFrame | .cmdFrame | .txFrame | .rxFrame => true
  | .idle | .dispatch | .precheck | .stbyLow | .stbyHigh | .gap | .csEnter | .hdrHold | .csExit | .pollTest | .chunkCalc
  | .chunkAdv | .initDo | .finish => false

/-- Whether slots 0 to 7 of the current frame are received ones. -/
def isReceiving (s : State) : Bool := s.seq.phase == .rxFrame

/-- At the start of a slot. -/
def atSlotStart (s : State) : Bool := s.slotE.qtr == 0

/-- At the start of a frame. -/
def atFrameStart (s : State) : Bool := s.frame.slot == 0 && s.slotE.qtr == 0

/-- The loads at the start of a frame (R243, R244, R245; the header frame is loaded by `HDR_HOLD`, R241). A buffer index
past the buffer is refused (20_memory.md R71); `CMD[i]` past 3 does not exist (10_state.md R31). -/
def frameStart (s : State) : Host.Outcome State Fault Refusal :=
  if atFrameStart s then
    match s.seq.phase with
    | .cmdFrame =>
      if s.seq.byteidx.toNat < 4 then
        .next (setMakb (makSend s.seq.byteidx.toNat s.desc.cmdlen.toNat s.desc.cmdterm)
          (setShr (cmdByte s.desc.cmd s.seq.byteidx.toNat) s))
      else .fault (.noCommandByte s.seq.byteidx.toNat)
    | .txFrame =>
      if payloadIndex s < s.host.bufSize then
        .next (setMakb (makSend s.seq.byteidx.toNat s.desc.plen.toNat true) (setShr (memRead s.host.buf (payloadIndex s)) s))
      else .refused (.bufferRange (payloadIndex s))
    | .rxFrame =>
      if s.desc.pdir = .rxBuf ∧ s.host.bufSize ≤ payloadIndex s then .refused (.bufferRange (payloadIndex s))
      else .next (setMakb (makReceive s.seq.byteidx.toNat s.desc.plen.toNat) s)
    | _ => .next s
  else .next s

/-- The value the slot engine is given (R246). -/
def slotInput (s : State) : Bool :=
  if s.frame.slot = 9 then true
  else if s.frame.slot = 8 then s.frame.makb
  else if isReceiving s then true
  else topBit s

/-- What precedes a slot: the release of the line (R246). -/
def slotBefore (s : State) : State :=
  if s.frame.slot = 9 then dirOp .input s
  else if s.frame.slot = 0 ∧ isReceiving s then dirOp .input s
  else s

/-- The next frame of a run: `SLOT` back to 0 (R230). -/
def nextFrame (p : Phase) (i : Nat) (s : State) : State := setPhase p (setSlot 0 (setByteidx i s))

/-- The end of a payload frame (R244, R245). -/
def payloadFrameEnd (p : Phase) (s : State) : State :=
  if !s.frame.ack then setPhase .csExit (raise .ackFail s)
  else if s.seq.byteidx.toNat + 1 < s.desc.plen.toNat then nextFrame p (s.seq.byteidx.toNat + 1) s
  else setPhase .csExit s

/-- The end of a command frame (R243). -/
def commandFrameEnd (s : State) : State :=
  if !s.frame.ack then setPhase .csExit (raise .ackFail s)
  else if s.seq.byteidx.toNat + 1 < s.desc.cmdlen.toNat then nextFrame .cmdFrame (s.seq.byteidx.toNat + 1) s
  else if s.desc.plen = 0 then setPhase .csExit (setByteidx 0 s)
  else
    match s.desc.pdir with
    | .tx => nextFrame .txFrame 0 s
    | .rxBuf | .rxStatus => nextFrame .rxFrame 0 s
    | .none => setPhase .csExit (setByteidx 0 s)

/-- The end of a frame, by phase (R242 to R245). -/
def frameEnd (s : State) : State :=
  match s.seq.phase with
  | .hdrFrame => nextFrame .cmdFrame 0 s
  | .cmdFrame => commandFrameEnd s
  | .txFrame => payloadFrameEnd .txFrame s
  | .rxFrame => payloadFrameEnd .rxFrame s
  | _ => s

/-- What follows a slot (R246), and the advance of `SLOT` or of the frame (R230). -/
def slotAfter (s : State) : State :=
  if s.frame.slot = 9 then
    let t := dirOp .output s
    frameEnd (setAck (observed t) t)
  else if s.frame.slot = 8 then setSlot 9 s
  else
    let t := shiftIn (isReceiving s && observed s) s
    let u := if s.frame.slot = 7 ∧ isReceiving s then storeReceived (dirOp .output t) else t
    setSlot (s.frame.slot + 1) u

/-- One quarter of a frame: the frame's and the slot's own actions at its first quarter, and after its last (R152, R246). -/
def frameQuarter (s : State) : Host.Outcome State Fault Refusal :=
  andThen (frameStart s) fun t =>
    let u := if atSlotStart t then slotBefore t else t
    let v := quarter (slotInput u) u.slotE.qtr u
    .next (if u.slotE.qtr = 3 then slotAfter v else v)

/-! ## Phases -/

/-- Where an `AWAIT` begins (R234, R247). -/
def awaitPhase : Phase := if Config.awaitLeadingStandby then .stbyLow else .gap

/-- A refused request (R234): `OK <- 0`, then `FINISH`. -/
def refuse (f : Failure) (s : State) : State := setPhase .finish (raise f s)

/-- `DISPATCH` (R234), its conditions in order. Where the bytes of `read` or `simple_write` do not fit the buffer, the
operation is refused (20_memory.md R71, log 8). -/
def fsmDispatch (s0 : State) : Host.Outcome State Fault Refusal :=
  let s := setOk true s0
  if 9 ≤ s.opnd.opsel.toNat then .next (refuse .reservedCode s)
  else if s.opnd.opsel.toNat ≠ 0 ∧ ¬ s.inited then .next (refuse .notInitialised s)
  else
    match s.opnd.opsel.toNat with
    | 0 => .next (setPhase .initDo s)
    | 1 =>
      let t := enter .read (loadAddress s)
      if payloadFits t then .next (setPhase .stbyLow t) else .refused (.bufferRange (t.desc.plen.toNat - 1))
    | 2 => .next (setPhase .precheck (enter .startWrite (loadWriteOperands s)))
    | 3 => .next (setPhase .stbyLow (enter .enableWrite s))
    | 4 => .next (setPhase .stbyLow (enter .disableWrite s))
    | 5 => .next (setPhase .stbyLow (enter .readStatus s))
    | 6 => .next (setPhase .stbyLow (enter .writeStatus s))
    | 7 => .next (setPhase awaitPhase (enter .await s))
    | _ =>
      let t := loadPagedOperands s
      if t.opnd.length.toNat ≤ t.host.bufSize then .next (setPhase .chunkCalc t)
      else .refused (.bufferRange (t.opnd.length.toNat - 1))

/-- `PRECHECK` (R236). An admitted write whose bytes do not fit the buffer is refused (20_memory.md R71, log 8). -/
def fsmPrecheck (s : State) : Host.Outcome State Fault Refusal :=
  if fitsPage s.orch.curAddr s.desc.plen.toNat then
    (if payloadFits s then .next (setPhase .stbyLow s) else .refused (.bufferRange (s.desc.plen.toNat - 1)))
  else .next (refuse .pageViolation s)

/-- `CS_EXIT` and its exit table (R247). -/
def fsmCsExit (s0 : State) : State :=
  let s := csExit s0
  if !s.seq.ok then setPhase .finish s
  else if s.seq.curop = .op .await then setPhase .pollTest s
  else if s.opnd.opsel = 8#4 ∧ s.seq.curop = .op .enableWrite then setPhase .precheck (enter .startWrite s)
  else if s.opnd.opsel = 8#4 ∧ s.seq.curop = .op .startWrite then setPhase awaitPhase (enter .await s)
  else setPhase .finish s

/-- `POLL_TEST` (R248). -/
def fsmPollTest (s : State) : State :=
  if wip s then setPhase .gap s
  else if s.opnd.opsel = 8#4 then setPhase .chunkAdv s
  else setPhase .finish s

/-- `CHUNK_CALC` (R249). -/
def fsmChunkCalc (s : State) : State :=
  if s.orch.rem = 0 then setPhase .finish s else setPhase .stbyLow (enter .enableWrite (takeChunk s))

/-- `HDR_HOLD` (R241). -/
def fsmHdrHold (s : State) : State :=
  setPhase .hdrFrame (setSlot 0 (setMakb true (setShr Config.startHeader (dly .hdr (lvlOp false s)))))

/-- One step of the sequencer (R233 to R252). -/
def fsmStep (s : State) : Host.Outcome State Fault Refusal :=
  match s.seq.phase with
  | .idle => .next s
  | .dispatch => fsmDispatch s
  | .precheck => fsmPrecheck s
  | .stbyLow => .next (setPhase .stbyHigh (dly .setup (lvlOp false (setOk true s))))
  | .stbyHigh => .next (setPhase (if s.desc.lead = .gap then .gap else .csEnter) (dly .stby (lvlOp true s)))
  | .gap => .next (setPhase .csEnter (dly .gap (lvlOp true (setOk true s))))
  | .csEnter => .next (setPhase .hdrHold (csEnter s))
  | .hdrHold => .next (fsmHdrHold s)
  | .hdrFrame => frameQuarter s
  | .cmdFrame => frameQuarter s
  | .txFrame => frameQuarter s
  | .rxFrame => frameQuarter s
  | .csExit => .next (fsmCsExit s)
  | .pollTest => .next (fsmPollTest s)
  | .chunkCalc => .next (fsmChunkCalc s)
  | .chunkAdv => .next (setPhase .chunkCalc (advanceChunk s))
  | .initDo => .next (setPhase .finish (setInited (dirOp .output (lvlOp true s))))
  | .finish => .next (complete s)

/-- `k` steps of the sequencer. -/
def fsmRun : Nat → State → Host.Outcome State Fault Refusal
  | 0, s => .next s
  | k + 1, s => andThen (fsmStep s) (fsmRun k)

end Sys2Proof.Machine
end

