-- ==== Sys2Proof/Machine/Engine.lean ====
section
/-! DEFINITION. What one step does: the host's move, then, unless the move is the step, the engine's. The engine's
program counter is the tuple of 45_sequencer_fsm.md R230; where an instruction begins there, the step fetches its
word, decodes it and runs it whole (R256, log 1); elsewhere it takes one phase, or one quarter of a slot. Where the host's
move is a tick, the step is one phase or one quarter of a slot everywhere. -/

namespace Sys2Proof.Machine

/-! ## Fetch -/

/-- The instruction the request registers hold (30_encoding.md R114, R124). -/
def fetchRequest (s : State) : Except Reject Instr := decode (requestWord s.opnd)

/-- The wire command the command buffer holds: a reserved opcode byte (R111), or the command that `CMD[0]` to
`CMD[CMDLEN - 1]` spell (R107, R108). Bytes that are no command are sent all the same, frame by frame (R112). -/
def fetchWire (s : State) : Option Instr :=
  if s.desc.cmd.c1 = Config.opcCrrd then some .crrd
  else if s.desc.cmd.c1 = Config.opcEral then some .eral
  else if s.desc.cmd.c1 = Config.opcSetal then some .setal
  else
    match decode (cmdBytes s.desc) with
    | .ok i => if i.isWire then some i else none
    | .error _ => none

/-- The slot code the frame engine presents (R101, R170). -/
def slotCode (w : Bool) : List Byte := if w then [0x03#8] else [0x0C#8]

/-! ## One step of the engine -/

/-- One slot of a frame (R246): the frame's loads, what precedes the slot, the slot itself, what follows it. Inside a
slot, one quarter. -/
def slotStep (s : State) : Host.Outcome State Fault Refusal :=
  if atSlotStart s then
    andThen (frameStart s) fun t =>
      match decode (slotCode (slotInput t)) with
      | .ok i => andThen (exec i (slotBefore t)) fun u => .next (slotAfter u)
      | .error _ => frameQuarter s
  else frameQuarter s

/-- At the first frame of a wire command. -/
def atCommandStart (s : State) : Bool := atFrameStart s && s.seq.byteidx == 0

/-- One step of the engine. -/
def engineStep (s : State) : Host.Outcome State Fault Refusal :=
  match s.seq.phase with
  | .hdrHold => andThen (exec .startHeader s) fun t => .next (nextFrame .cmdFrame 0 t)
  | .cmdFrame =>
    if atCommandStart s then
      match fetchWire s with
      | some i => andThen (exec i s) fun t => .next (setPhase .csExit t)
      | none => slotStep s
    else slotStep s
  | .hdrFrame => slotStep s
  | .txFrame => slotStep s
  | .rxFrame => slotStep s
  | _ => fsmStep s

/-! ## The host's moves -/

/-- A host write: only while `BUSY = 0` (10_state.md R62, U7). -/
def hostWrite (s t : State) : Host.Outcome State Fault Refusal :=
  if s.res.busy then .refused .hostWriteWhileBusy else .next t

/-- START (43_device_operations.md R204): the instruction in the request registers; ignored while busy (R212). -/
def hostStart (s : State) : Host.Outcome State Fault Refusal :=
  if s.res.busy then .next s
  else
    match fetchRequest s with
    | .ok i => exec i s
    | .error _ => .refused .noInstruction

/-- START alone (45_sequencer_fsm.md R233); ignored while busy (R212). -/
def hostStartPulse (s : State) : Host.Outcome State Fault Refusal :=
  if s.res.busy then .next s else .next (pulseStart s)

/-- One move of the host (00_scope.md R8). Between any two steps of the sequencer it may be a reset (70_reset_and_hazards.md
R290): `startPulse` and `tick` bring the engine to every phase and quarter inside an operation. -/
def hostMove (m : HostMove) (s : State) : Host.Outcome State Fault Refusal :=
  match m with
  | .wait => engineStep s
  | .tick => fsmStep s
  | .start => hostStart s
  | .startPulse => hostStartPulse s
  | .writeReg r v => hostWrite s (setOperands (writeReg r v s.opnd) s)
  | .writeIe v => hostWrite s { s with host := { s.host with ie := v } }
  | .writeBuf i v => if i < s.host.bufSize then hostWrite s (bufWrite i v s) else .refused (.bufferRange i)
  | .rst => .next (hardReset s)

/-- The host has made its move. -/
def popMove (s : State) : State := { s with env := { s.env with moves := s.env.moves.tail } }

/-- The host's next move; none listed means it waits. -/
def nextMove (s : State) : HostMove := s.env.moves.head?.getD .wait

/-- The step. -/
def oneStep (s : State) : Host.Outcome State Fault Refusal := hostMove (nextMove s) (popMove s)

/-! ## Placing an instruction where the next step fetches it -/

/-- The host waits at the next step. -/
def hostWaits (s : State) : State := { s with env := { s.env with moves := .wait :: s.env.moves } }

/-- A request: all five registers from the word (30_encoding.md R124), the engine idle, START the host's next move. -/
def placeRequest (w : Nat) (s : State) : State :=
  { s with
    opnd :=
      { opsel := BitVec.ofNat 4 (w / 2 ^ 48), devaddr := BitVec.ofNat 8 (w / 2 ^ 40), offset := BitVec.ofNat 16 (w / 2 ^ 24),
        length := BitVec.ofNat 16 (w / 2 ^ 8), statusW := BitVec.ofNat 8 w }
    res := { s.res with busy := false }
    seq := { s.seq with phase := .idle }
    env := { s.env with moves := .start :: s.env.moves } }

/-- The engine is busy at the start of slot `k` of the frame of byte 0 in phase `p`. -/
def placeAt (p : Phase) (k : Fin 10) (s : State) : State :=
  hostWaits { s with
    slotE := { s.slotE with qtr := 0 }
    frame := { s.frame with slot := k }
    res := { s.res with busy := true }
    seq := { s.seq with phase := p, byteidx := 0 } }

/-- A wire command: its bytes in the command buffer, the engine at its first frame. -/
def placeCommand (bytes : List Byte) (s : State) : State :=
  placeAt .cmdFrame 0 (setDesc { s.desc with
    cmd := { c0 := bytes.getD 0 s.desc.cmd.c0, c1 := bytes.getD 1 s.desc.cmd.c1, c2 := bytes.getD 2 s.desc.cmd.c2,
             c3 := bytes.getD 3 s.desc.cmd.c3 }
    cmdlen := BitVec.ofNat 3 bytes.length } s)

/-- An opcode without a command format: the opcode byte of a command about to be sent. -/
def placeOpcode (op : Byte) (s : State) : State := placeCommand [s.desc.cmd.c0, op] s

/-- The slot of a logical value: the MAK slot of a frame that carries it. -/
def placeSlot (w : Bool) (s : State) : State := placeAt .hdrFrame 8 (setMakb w s)

/-- A table word where the next step fetches it (log 34). -/
def placeWord (s : State) (nbits w : Nat) : State :=
  match decodeTableWord nbits w with
  | none => s
  | some .crrd => placeOpcode Config.opcCrrd s
  | some .eral => placeOpcode Config.opcEral s
  | some .setal => placeOpcode Config.opcSetal s
  | some .startHeader => placeAt .hdrHold 0 s
  | some .bit1 => placeSlot true s
  | some .bit0 => placeSlot false s
  | some i => if i.isWire then placeCommand (bytesOfNat (tableBytes nbits) w) s else placeRequest w s

end Sys2Proof.Machine
end

