-- ==== Sys2Proof/Machine/Timing.lean ====
section
/-! DEFINITION. Durations (70_reset_and_hazards.md R310, R311): what a trace takes at least. No step reads them. -/

namespace Sys2Proof.Machine

/-- The least duration of one micro-operation in microseconds: `DLY(n)` lasts at least `n`, the others take none (R310). -/
def opMicros : MicroOp → Nat
  | .dly i => Config.micros i
  | .dir _ | .lvl _ | .smp _ | .csEnter | .csExit _ => 0

/-- The least duration of a trace. -/
def leastMicros (trace : List MicroOp) : Nat := (trace.map opMicros).sum

end Sys2Proof.Machine
end

