-- ==== Sys2Proof/Safety.lean ====
section
/-! DEFINITION. The words that claims are stated in: what the line environment answers in the frames to come, what a trace
puts on the line, and the invariants of the machine. -/

namespace Sys2Proof.Machine

/-! ## Answers of the line environment

Every frame takes twenty samples, two a slot, so the frames of an operation begin at samples 0, 20, 40, … -/

/-- The level of a released line (40_bus_primitive.md R142). -/
def releasedLevel (d : Drive) : Bool := d.getD true

/-- The value two samples of a released slot decode to (30_encoding.md R102). -/
def answerBit (a b : Drive) : Bool := releasedLevel b && !releasedLevel a

/-- The acknowledgment of the frame whose first sample is the `k`-th from now (30_encoding.md R105). -/
def ackAt (s : State) (k : Nat) : Bool := answerBit (driveAt s (k + 18)) (driveAt s (k + 19))

/-- Data bit `7 - j` of a received frame whose first sample is the `k`-th from now. -/
def dataBitAt (s : State) (k j : Nat) : Bool := answerBit (driveAt s (k + 2 * j)) (driveAt s (k + 2 * j + 1))

/-- The byte of a received frame whose first sample is the `k`-th from now (20_memory.md R74). -/
def byteAt (s : State) (k : Nat) : Byte :=
  [0, 1, 2, 3, 4, 5, 6, 7].foldl (fun b j => b.extractLsb' 0 7 ++ BitVec.ofBool (dataBitAt s k j)) 0#8

/-- Whether frames `first` to `first + n - 1` are all acknowledged. -/
def allAcked (s : State) (first n : Nat) : Bool := (List.range n).all fun j => ackAt s (20 * (first + j))

/-- How many of the frames `first` to `first + n - 1` go on the line: up to the first without acknowledgment
(41_byte_framing.md R162, R171). -/
def framesRun (s : State) (first : Nat) : Nat → Nat
  | 0 => 0
  | n + 1 => if ackAt s (20 * first) then 1 + framesRun s (first + 1) n else 1

/-- The status byte of poll `j` of `await_write_complete`: a poll is four frames, header, address, opcode, status
(43_device_operations.md R207). -/
def pollStatus (s : State) (j : Nat) : Byte := byteAt s (20 * (4 * j + 3))

/-- Poll `j` is acknowledged in its three frames after the header. -/
def pollAcked (s : State) (j : Nat) : Bool := allAcked s (4 * j + 1) 3

/-- The environment does not drive against the master in the next `n` samples (R142, contention). -/
def quietFor (s : State) (n : Nat) : Prop := ∀ k < n, driveAt s k = none

/-- The inputs of the environment after `n` more samples. -/
def Env.after (e : Env) (n : Nat) : Env := { e with script := e.script.drop n, samples := e.samples + n }

/-! ## What a trace puts on the line -/

/-- The bits of a byte in the order of the wire, most significant first (20_memory.md R74). -/
def wireBits (b : Byte) : List Bool := [7, 6, 5, 4, 3, 2, 1, 0].map b.getLsbD

/-- A slot's eight micro-operations with its two samples (40_bus_primitive.md R145). -/
def slotTrace (w a b : Bool) : List MicroOp :=
  [.lvl (!w), .dly .quarter, .smp a, .dly .quarter, .lvl w, .dly .quarter, .smp b, .dly .quarter]

/-- A transmitted slot without contention: the samples are the master's own levels (R149). -/
def drivenSlotTrace (w : Bool) : List MicroOp := slotTrace w (!w) w

/-- `read_one_bit()` with its two samples (R147). -/
def releasedSlotTrace (a b : Bool) : List MicroOp := [.dir .input] ++ slotTrace true a b ++ [.dir .output]

/-- A transmitted frame without contention, its SAK slot sampled `a`, `b` (41_byte_framing.md R160). -/
def sentFrameTrace (v : Byte) (mak a b : Bool) : List MicroOp :=
  (wireBits v ++ [mak]).flatMap drivenSlotTrace ++ releasedSlotTrace a b

/-- A micro-operation without the value a sample returned: samples of different values have one shape. -/
def MicroOp.shape : MicroOp → MicroOp
  | .smp _ => .smp false
  | .dir d => .dir d
  | .lvl v => .lvl v
  | .dly i => .dly i
  | .csEnter => .csEnter
  | .csExit p => .csExit p

/-- A trace without its samples' values. -/
def shapeOf (ops : List MicroOp) : List MicroOp := ops.map MicroOp.shape

/-- `t` comes from `s` by micro-operations of the shape `shape`, oldest first. -/
def traced (s t : State) (shape : List MicroOp) : Prop := ∃ ops, t.trace = ops.reverse ++ s.trace ∧ shapeOf ops = shape

/-- The shape of a slot that carries `w` (40_bus_primitive.md R145). -/
def slotShape (w : Bool) : List MicroOp := slotTrace w false false

/-- The shape of `read_one_bit()` (R147). -/
def releasedShape : List MicroOp := releasedSlotTrace false false

/-- A frame on the line: sent with its byte, or received; with its MAK bit (00_scope.md R15, the frame shorthand). -/
inductive BusFrame where
  | sent (v : Byte) (mak : Bool)
  | received (mak : Bool)
  deriving DecidableEq, Repr

/-- The shape of a frame: eight data slots, driven or with the line released, the MAK slot, the released SAK slot
(30_encoding.md R103, 41_byte_framing.md R160, R161). -/
def BusFrame.shape : BusFrame → List MicroOp
  | .sent v mak => (wireBits v ++ [mak]).flatMap slotShape ++ releasedShape
  | .received mak =>
    [.dir .input] ++ (List.replicate 8 true).flatMap slotShape ++ [.dir .output] ++ slotShape mak ++ releasedShape

/-- The frames of a run of sent bytes (41_byte_framing.md R162): NoMAK on the last if `terminate`. -/
def sentRun (terminate : Bool) (bytes : List Byte) : List BusFrame :=
  bytes.zipIdx.map fun b => .sent b.1 (makSend b.2 bytes.length terminate)

/-- The frames of `n` receptions (R163): NoMAK on the last. -/
def receivedRun (n : Nat) : List BusFrame := (List.range n).map fun i => .received (makReceive i n)

/-- The bytes of the buffer from index `base` on. -/
def bufferBytes (m : Memory) (base n : Nat) : List Byte := (List.range n).map fun i => memRead m (base + i)

/-- The frames of a wire command with its payload (30_encoding.md R107, R108, R110). -/
def readFrames (dev hi lo : Byte) (n : Nat) : List BusFrame := sentRun false [dev, 0x03#8, hi, lo] ++ receivedRun n
def writeFrames (dev hi lo : Byte) (payload : List Byte) : List BusFrame :=
  sentRun false [dev, 0x6C#8, hi, lo] ++ sentRun true payload
def wrenFrames (dev : Byte) : List BusFrame := [.sent dev true, .sent 0x96#8 false]
def wrdiFrames (dev : Byte) : List BusFrame := [.sent dev true, .sent 0x91#8 false]
def rdsrFrames (dev : Byte) : List BusFrame := [.sent dev true, .sent 0x05#8 true, .received false]
def wrsrFrames (dev status : Byte) : List BusFrame := [.sent dev true, .sent 0x6E#8 true, .sent status false]

/-- The shape of a list of frames. -/
def framesShape (frames : List BusFrame) : List MicroOp := frames.flatMap BusFrame.shape

/-- The standby pulse, the gap (42_command_protocol.md R180, R181). -/
def standbyShape : List MicroOp := [.lvl false, .dly .setup, .lvl true, .dly .stby]
def gapShape : List MicroOp := [.lvl true, .dly .gap]

/-- The start header (R182). -/
def headerShape : List MicroOp := [.lvl false, .dly .hdr] ++ BusFrame.shape (.sent 0x55#8 true)

/-- A transaction (43_device_operations.md R192, 30_encoding.md R121): lead, `CS_ENTER`, header, the frames that follow it,
`CS_EXIT` with the prior `IE`. -/
def sessionShape (lead : List MicroOp) (ie : Bool) (frames : List BusFrame) : List MicroOp :=
  lead ++ [.csEnter] ++ headerShape ++ framesShape frames ++ [.csExit ie]

/-- How many critical sections a trace enters: one a transaction (R192). -/
def exchanges (t : List MicroOp) : Nat := t.count .csEnter

/-- Two states that agree outside the line, the slot and frame engines, the answers and the trace. -/
structure SameBesidesFrames (s t : State) : Prop where
  desc : t.desc = s.desc
  opnd : t.opnd = s.opnd
  res : t.res = s.res
  seq : t.seq = s.seq
  orch : t.orch = s.orch
  savedIe : t.savedIe = s.savedIe
  inited : t.inited = s.inited
  host : t.host = s.host
  moves : t.env.moves = s.env.moves

/-- No request is in progress, and `init` has run. -/
def State.ready (s : State) : Prop := s.res.busy = false ∧ s.inited = true

/-- What a wire command leaves (30_encoding.md R107, 41_byte_framing.md R162, R163): its frames on the line up to the first
without acknowledgment, the outcome in `OK`, the line driven high, `ACK` that of the last frame, and its frame: every
register but those of the frames, the descriptor, the payload's destination. -/
structure WireDone (frames : List BusFrame) (s t : State) : Prop where
  ok : t.seq.ok = allAcked s 0 frames.length
  trace : traced s t (framesShape (frames.take (framesRun s 0 frames.length)))
  env : t.env = s.env.after (20 * framesRun s 0 frames.length)
  line : t.line = { dir := .output, lvl := true }
  slotsRest : t.slotE.qtr = 0 ∧ t.slotE.tmr = 0
  lastFrame : t.frame.slot = 9 ∧ t.frame.ack = ackAt s (20 * (framesRun s 0 frames.length - 1))
  opnd : t.opnd = s.opnd
  result : t.res.success = s.res.success ∧ t.res.busy = s.res.busy ∧ t.res.done = s.res.done
  control : t.seq.phase = s.seq.phase ∧ t.seq.curop = s.seq.curop
  orch : t.orch = s.orch
  savedIe : t.savedIe = s.savedIe
  inited : t.inited = s.inited
  host : t.host.ie = s.host.ie ∧ t.host.bufSize = s.host.bufSize

/-- What a host operation of one transaction leaves (43_device_operations.md R192, R202, R205): the session on the line up
to the first command or payload frame without acknowledgment, the result and the handshake, the line driven high,
`IE` as before, and its frame: every register but those of the frames, the operands, the descriptor and the payload's
destination. Frame 0 is the header, which is not judged (42_command_protocol.md R183). -/
structure SessionDone (op : DevOp) (frames : List BusFrame) (s t : State) : Prop where
  result : t.res.success = allAcked s 1 frames.length ∧ t.res.done = true ∧ t.res.busy = false
  control : t.seq.phase = .idle ∧ t.seq.curop = .op op ∧ t.seq.ok = allAcked s 1 frames.length
  trace : traced s t (sessionShape standbyShape s.host.ie (frames.take (framesRun s 1 frames.length)))
  env : t.env = s.env.after (20 * (1 + framesRun s 1 frames.length))
  line : t.line = { dir := .output, lvl := true }
  slotsRest : t.slotE.qtr = 0 ∧ t.slotE.tmr = 0
  lastFrame : t.frame.slot = 9 ∧ t.frame.ack = ackAt s (20 * framesRun s 1 frames.length)
  savedIe : t.savedIe = s.host.ie
  inited : t.inited = s.inited
  host : t.host.ie = s.host.ie ∧ t.host.bufSize = s.host.bufSize

/-- What every request leaves that runs no transaction at all (60_exceptions.md R261, R263): `t` is `s` with the request
presented and completed with `success`, nothing on the line; the rest of the sequencer, the orchestrator and the
descriptor are said where it is used. -/
structure Untouched (s t : State) : Prop where
  trace : t.trace = s.trace
  env : t.env = s.env
  line : t.line = s.line
  slotE : t.slotE = s.slotE
  frame : t.frame = s.frame
  host : t.host = s.host
  savedIe : t.savedIe = s.savedIe
  inited : t.inited = s.inited
  statusR : t.res.statusR = s.res.statusR

/-- Completion (43_device_operations.md R205). -/
def finished (success : Bool) (t : State) : Prop :=
  t.res.success = success ∧ t.res.done = true ∧ t.res.busy = false ∧ t.seq.phase = .idle ∧ t.seq.ok = success

/-- What the step adds around the instruction it fetches: after a wire command the sequencer leaves the critical section,
after the header comes command byte 0, around a slot the frame engine loads and shifts (45_sequencer_fsm.md R241 to
R246). -/
def aroundExec (i : Instr) (s : State) : Host.Outcome State Fault Refusal :=
  match i with
  | .wireRead .. | .wireWrite .. | .wireWren .. | .wireWrdi .. | .wireRdsr .. | .wireWrsr .. | .crrd | .eral | .setal =>
    andThen (exec i s) fun t => .next (setPhase .csExit t)
  | .startHeader => andThen (exec i s) fun t => .next (nextFrame .cmdFrame 0 t)
  | .bit1 | .bit0 => andThen (frameStart s) fun t => andThen (exec i (slotBefore t)) fun u => .next (slotAfter u)
  | .init | .read .. | .startWrite .. | .enableWrite .. | .disableWrite .. | .readStatus .. | .writeStatus ..
  | .awaitWriteComplete .. | .simpleWrite .. | .reserved9 | .reserved10 | .reserved11 | .reserved12 | .reserved13
  | .reserved14 | .reserved15 => exec i s

/-- `k` steps of the machine. -/
def steps : Nat → State → Host.Outcome State Fault Refusal
  | 0, s => .next s
  | k + 1, s => andThen (step s) (steps k)

/-! ## The chunks of a paged write (44_paged_write.md R221 to R223) -/

/-- A chunk: device address, buffer index, length. -/
structure Chunk where
  addr : Half
  ptr : Nat
  len : Nat
  deriving DecidableEq, Repr

/-- The chunks of `rem` bytes from device address `addr` and buffer index `ptr`, by the chunk law; `fuel` bounds their
number. -/
def chunksFrom : Nat → Half → Nat → Half → List Chunk
  | 0, _, _, _ => []
  | fuel + 1, addr, ptr, rem =>
    if rem = 0 then []
    else
      let k := chunkLength rem addr
      { addr := addr, ptr := ptr, len := k } :: chunksFrom fuel (addr + BitVec.ofNat 16 k) (ptr + k) (rem - BitVec.ofNat 16 k)

/-- The chunks of `simple_write(offset, length)`. -/
def chunksOf (offset length : Half) : List Chunk := chunksFrom length.toNat offset 0 length

/-! A chunk is twelve frames and its bytes: `enable_write` three (header, address, opcode), `start_write` five and the
bytes, each poll four; with `m` busy polls it is `12 + 4 m` frames and the bytes (44_paged_write.md R220). -/

/-- A chunk and the number of its polls that report a write in progress. -/
abbrev Polled := Chunk × Nat

/-- The frames of a chunk. -/
def chunkFrames (c : Polled) : Nat := 12 + c.1.len + 4 * c.2

/-- The frames of chunks. -/
def framesOf (cs : List Polled) : Nat := (cs.map chunkFrames).sum

/-- The answers from frame `base` on let a chunk succeed: every command and payload frame is acknowledged, the polls are
busy `m` times and then report no write in progress; a poll after a busy one begins before the script is used up, so
that the step does not stop before it (log 19). -/
def chunkAnswered (s : State) (base : Nat) (c : Polled) : Prop :=
  allAcked s (base + 1) 2 = true ∧
  allAcked s (base + 4) (4 + c.1.len) = true ∧
  (∀ j ≤ c.2, allAcked s (base + 8 + c.1.len + 4 * j + 1) 3 = true) ∧
  (∀ j < c.2, (byteAt s (20 * (base + 8 + c.1.len + 4 * j + 3))).getLsbD 0 = true) ∧
  (byteAt s (20 * (base + 8 + c.1.len + 4 * c.2 + 3))).getLsbD 0 = false ∧
  (c.2 = 0 ∨ 20 * (base + 8 + c.1.len + 4 * c.2) < s.env.script.length)

/-- The answers from frame `base` on let every chunk of a list succeed. -/
def chunksAnswered (s : State) : Nat → List Polled → Prop
  | _, [] => True
  | base, c :: cs => chunkAnswered s base c ∧ chunksAnswered s (base + chunkFrames c) cs

/-- The sub-operations of a chunk on the line (R220): `enable_write`, `start_write` of the chunk's bytes, and
`await_write_complete`: a standby pulse, then the polls. -/
def enableShape (ie : Bool) (dev : Byte) : List MicroOp := sessionShape standbyShape ie (wrenFrames dev)
def chunkWriteFrames (dev : Byte) (m : Memory) (c : Chunk) : List BusFrame :=
  writeFrames dev (hiByte c.addr) (loByte c.addr) (bufferBytes m c.ptr c.len)
def pollShape (ie : Bool) (dev : Byte) : List MicroOp := sessionShape gapShape ie (rdsrFrames dev)

/-- A whole chunk on the line. -/
def chunkShape (ie : Bool) (dev : Byte) (m : Memory) (c : Polled) : List MicroOp :=
  enableShape ie dev ++ sessionShape standbyShape ie (chunkWriteFrames dev m c.1) ++ standbyShape ++
    (List.replicate (c.2 + 1) (pollShape ie dev)).flatten

/-- What `simple_write` leaves: the result, the handshake, the trace; the orchestrator stands at the chunk it stopped at
(44_paged_write.md R224). -/
structure PagedDone (dev : Byte) (offset length : Half) (success : Bool) (stop : Half × Nat) (shape : List MicroOp)
    (frames : Nat) (s t : State) : Prop where
  finished : finished success t
  trace : traced s t shape
  env : t.env = s.env.after (20 * frames)
  opnd : t.opnd = { s.opnd with opsel := 8#4, devaddr := dev, offset := offset, length := length }
  orch : t.orch.curAddr = stop.1 ∧ t.orch.curPtr.toNat = stop.2 ∧ t.orch.rem.toNat + stop.2 = length.toNat
  line : t.line = { dir := .output, lvl := true }
  savedIe : t.savedIe = s.host.ie
  host : t.host = s.host
  inited : t.inited = s.inited

/-! ## Invariants -/

/-- The handshake (10_state.md R41, R42): busy exactly while a phase other than `IDLE` stands, and never done while busy. -/
def State.handshake (s : State) : Prop := (s.res.busy = true ↔ s.seq.phase ≠ .idle) ∧ ¬ (s.res.busy = true ∧ s.res.done = true)

/-- Only `init`, dispatch and completion are under way before `init` has completed (43_device_operations.md R211). -/
def State.initFirst (s : State) : Prop :=
  s.inited = false → s.seq.phase = .idle ∨ s.seq.phase = .dispatch ∨ s.seq.phase = .initDo ∨ s.seq.phase = .finish

/-- The slot engine rests outside the frames, and the timer rests between steps (10_state.md R25, R26). -/
def State.slotsRest (s : State) : Prop := (isFramePhase s.seq.phase = false → s.slotE.qtr = 0) ∧ s.slotE.tmr = 0

/-- Inside a released slot: slot 9 of any frame, slots 0 to 7 of a received one (41_byte_framing.md R165). -/
def State.listening (s : State) : Bool :=
  isFramePhase s.seq.phase &&
    ((s.frame.slot == 9 && s.slotE.qtr != 0) ||
     (isReceiving s && decide (s.frame.slot.val < 8) && (s.frame.slot != 0 || s.slotE.qtr != 0)))

/-- The direction invariant (42_command_protocol.md R186, 41_byte_framing.md R165): once initialised, the line is driven at
every point but inside the released slots, and there it is released. -/
def State.lineDriven (s : State) : Prop :=
  s.inited = true → s.line.dir = if s.listening then .input else .output

/-- The latch inside a slot (30_encoding.md R122): the complement of the slot's value before its middle, the value after. -/
def State.slotLevel (s : State) : Prop :=
  isFramePhase s.seq.phase = true →
    (s.slotE.qtr = 1 ∨ s.slotE.qtr = 2 → s.line.lvl = !slotInput s) ∧ (s.slotE.qtr = 3 → s.line.lvl = slotInput s)

/-- The phases in which the line rests high (41_byte_framing.md R165, 43_device_operations.md R205). -/
def restsHigh : Phase → Bool
  | .stbyHigh | .hdrFrame | .cmdFrame | .txFrame | .rxFrame => false
  | .idle | .dispatch | .precheck | .stbyLow | .gap | .csEnter | .hdrHold | .csExit | .pollTest | .chunkCalc | .chunkAdv
  | .initDo | .finish => true

/-- The line rests high between the pulses, the frames and the operations, and before and after `init`. -/
def State.lineHigh (s : State) : Prop := restsHigh s.seq.phase = true → s.line.lvl = true

/-- The phases of the critical section (60_exceptions.md R267). -/
def inCriticalSection : Phase → Bool
  | .hdrHold | .hdrFrame | .cmdFrame | .txFrame | .rxFrame | .csExit => true
  | .idle | .dispatch | .precheck | .stbyLow | .stbyHigh | .gap | .csEnter | .pollTest | .chunkCalc | .chunkAdv | .initDo
  | .finish => false

/-- Preemption is suppressed from `CS_ENTER` to `CS_EXIT` (R267). -/
def State.exchangeMasked (s : State) : Prop := inCriticalSection s.seq.phase = true → s.host.ie = false

/-- The phases in which a transaction's descriptor is loaded and in use. -/
def descriptorInUse : Phase → Bool
  | .precheck | .stbyLow | .stbyHigh | .gap | .csEnter | .hdrHold | .hdrFrame | .cmdFrame | .txFrame | .rxFrame | .csExit
  | .pollTest => true
  | .idle | .dispatch | .chunkCalc | .chunkAdv | .initDo | .finish => false

/-- The descriptor is the row of the operation in `CUROP` (43_device_operations.md R201). -/
def State.descriptorLoaded (s : State) : Prop :=
  descriptorInUse s.seq.phase = true → ∃ op, s.seq.curop = .op op ∧ s.desc = { descRow op s with lead := leadOf op }

/-- A write whose frames may go on the wire lies in one page, and its payload in the buffer; payload frames go the way the
descriptor says (20_memory.md R77, R71, 10_state.md R32). -/
def State.payloadAdmitted (s : State) : Prop :=
  (descriptorInUse s.seq.phase = true → s.seq.phase ≠ .precheck →
    (s.seq.curop = .op .startWrite → fitsPage s.orch.curAddr s.desc.plen.toNat = true) ∧
    (s.desc.pdir = .tx ∨ s.desc.pdir = .rxBuf → payloadFits s = true)) ∧
  (s.seq.phase = .txFrame → s.desc.pdir = .tx) ∧
  (s.seq.phase = .rxFrame → s.desc.pdir = .rxBuf ∨ s.desc.pdir = .rxStatus)

/-- Every listed byte of the buffer lies in it, and the form is canonical (10_state.md R56). -/
def State.bufferForm (s : State) : Prop :=
  s.host.buf.wf = true ∧ ∀ c ∈ s.host.buf, c.1 < s.host.bufSize

/-- The byte counter lies in the run of frames it counts (10_state.md R45, 44_paged_write.md R229). -/
def State.countersInRange (s : State) : Prop :=
  (s.seq.phase = .cmdFrame → s.seq.byteidx.toNat < s.desc.cmdlen.toNat) ∧
  (s.seq.phase = .txFrame ∨ s.seq.phase = .rxFrame → s.seq.byteidx.toNat < s.desc.plen.toNat)

/-- The phases of `simple_write` between its dispatch and its completion. -/
def pagedPhase : Phase → Bool
  | .idle | .dispatch | .initDo | .finish => false
  | .precheck | .stbyLow | .stbyHigh | .gap | .csEnter | .hdrHold | .hdrFrame | .cmdFrame | .txFrame | .rxFrame | .csExit
  | .pollTest | .chunkCalc | .chunkAdv => true

/-- The chunk loop (44_paged_write.md R221, R229): `CUR_PTR + REM = LENGTH`, the bytes lie in the buffer, and past
`CHUNK_CALC` the chunk is the one the chunk law gives for what remains. -/
def State.chunksInStep (s : State) : Prop :=
  s.opnd.opsel = 8#4 → pagedPhase s.seq.phase = true →
    s.orch.curPtr.toNat + s.orch.rem.toNat = s.opnd.length.toNat ∧ s.opnd.length.toNat ≤ s.host.bufSize ∧
    (s.seq.phase ≠ .chunkCalc → s.orch.rem ≠ 0 ∧ s.orch.chunk.toNat = chunkLength s.orch.rem s.orch.curAddr)

/-- `OK` is 1 from dispatch on until a failure, which leads to `CS_EXIT` or `FINISH` at once (10_state.md R46). -/
def State.okWhileRunning (s : State) : Prop :=
  s.seq.phase = .idle ∨ s.seq.phase = .dispatch ∨ s.seq.phase = .csExit ∨ s.seq.phase = .finish ∨ s.seq.ok = true

/-- All of them: a state that the machine can be in. -/
structure State.Inv (s : State) : Prop where
  handshake : s.handshake
  initFirst : s.initFirst
  slotsRest : s.slotsRest
  lineDriven : s.lineDriven
  slotLevel : s.slotLevel
  lineHigh : s.lineHigh
  exchangeMasked : s.exchangeMasked
  descriptorLoaded : s.descriptorLoaded
  payloadAdmitted : s.payloadAdmitted
  bufferForm : s.bufferForm
  countersInRange : s.countersInRange
  chunksInStep : s.chunksInStep
  okWhileRunning : s.okWhileRunning

end Sys2Proof.Machine
end

