-- ==== Sys2Proof/Certificates/Slice0/Obligations.lean ====
section
/-! DEFINITION. The statements for the provers, in the order of OBLIGATIONS.json. A sample's answer is `driveAt s k`, the
line environment's `k`-th from now; `ackAt`, `byteAt`, `allAcked`, `framesRun` read answers (Safety.lean). Every statement
holds for every answer, scripted or free. -/

open Sys2Proof Sys2Proof.Machine

/-! ## Encoding -/

/-- Words written out from 30_encoding.md R101, R106, R107, R108, R111, R124 decode to the instructions they stand for. That a
4-bit slot code is one byte with a zero high half (log 29) and the 52-bit request word seven bytes with four zero bits on top
(log 28) is the model's choice. -/
def Obligations.DecodesSpecWords : Prop :=
  decode [0x03#8] = .ok .bit1 ∧ decode [0x0C#8] = .ok .bit0 ∧ decode [0x55#8] = .ok .startHeader ∧
  decode [0x06#8] = .ok .crrd ∧ decode [0x6D#8] = .ok .eral ∧ decode [0x67#8] = .ok .setal ∧
  decode [0xA0#8, 0x96#8] = .ok (.wireWren 0xA0#8) ∧ decode [0xA0#8, 0x91#8] = .ok (.wireWrdi 0xA0#8) ∧
  decode [0xA0#8, 0x05#8] = .ok (.wireRdsr 0xA0#8) ∧ decode [0xA0#8, 0x6E#8, 0x0C#8] = .ok (.wireWrsr 0xA0#8 0x0C#8) ∧
  decode [0xA0#8, 0x03#8, 0x00#8, 0x03#8] = .ok (.wireRead 0xA0#8 0x00#8 0x03#8) ∧
  decode [0xA0#8, 0x6C#8, 0x12#8, 0x34#8] = .ok (.wireWrite 0xA0#8 0x12#8 0x34#8) ∧
  decode [0x01#8, 0xA0#8, 0x00#8, 0x03#8, 0x00#8, 0x04#8, 0x00#8] = .ok (.read 0xA0#8 0x0003#16 0x0004#16) ∧
  decode [0x06#8, 0xA0#8, 0x00#8, 0x00#8, 0x00#8, 0x00#8, 0x0C#8] = .ok (.writeStatus 0xA0#8 0x0C#8) ∧
  decode [0x08#8, 0xA0#8, 0x00#8, 0x1E#8, 0x00#8, 0x04#8, 0x00#8] = .ok (.simpleWrite 0xA0#8 0x001E#16 0x0004#16) ∧
  decode [0x09#8, 0x00#8, 0x00#8, 0x00#8, 0x00#8, 0x00#8, 0x00#8] = .ok .reserved9

/-- Decoding undoes encoding, for every instruction with every operand, as bytes and as a table word (R107, R124). -/
def Obligations.DecodeOfEncode : Prop :=
  ∀ i : Instr, decode (encode i) = .ok i ∧
    decodeTableWord (8 * (encode i).length) (natOfBytes (encode i)) = some i

/-- A word of a row's length decodes to the row's instruction exactly when it has the row's pattern under the row's mask:
no row overlaps another (R101, R106, R108, R111, R114, R115, R124). -/
def Obligations.TableRowsDecode : Prop :=
  ∀ row ∈ tableRows, ∀ w < 2 ^ row.nbits,
    ((decodeTableWord row.nbits w).map Instr.mnemonic = some row.mnemonic ↔ row.hit w = true)

/-- Where the operand fields of a word lie: the request word (R124) and the formats C2, C3, C4 (R107). -/
def Obligations.OperandFields : Prop :=
  (∀ w < 2 ^ 52, decodeTableWord 52 w =
    some (decodeRequest (BitVec.ofNat 4 (w / 2 ^ 48)) (BitVec.ofNat 8 (w / 2 ^ 40)) (BitVec.ofNat 16 (w / 2 ^ 24))
      (BitVec.ofNat 16 (w / 2 ^ 8)) (BitVec.ofNat 8 w))) ∧
  (∀ w < 2 ^ 32,
    (w / 2 ^ 16 % 256 = 0x03 → decodeTableWord 32 w =
      some (.wireRead (BitVec.ofNat 8 (w / 2 ^ 24)) (BitVec.ofNat 8 (w / 2 ^ 8)) (BitVec.ofNat 8 w))) ∧
    (w / 2 ^ 16 % 256 = 0x6C → decodeTableWord 32 w =
      some (.wireWrite (BitVec.ofNat 8 (w / 2 ^ 24)) (BitVec.ofNat 8 (w / 2 ^ 8)) (BitVec.ofNat 8 w)))) ∧
  (∀ w < 2 ^ 24, w / 2 ^ 8 % 256 = 0x6E →
    decodeTableWord 24 w = some (.wireWrsr (BitVec.ofNat 8 (w / 2 ^ 16)) (BitVec.ofNat 8 w))) ∧
  (∀ w < 2 ^ 16,
    (w % 256 = 0x96 → decodeTableWord 16 w = some (.wireWren (BitVec.ofNat 8 (w / 2 ^ 8)))) ∧
    (w % 256 = 0x91 → decodeTableWord 16 w = some (.wireWrdi (BitVec.ofNat 8 (w / 2 ^ 8)))) ∧
    (w % 256 = 0x05 → decodeTableWord 16 w = some (.wireRdsr (BitVec.ofNat 8 (w / 2 ^ 8)))))

/-- A word with an opcode that no command of its length has is rejected; so is a list of bytes of no format's length
(R107, R108, R112). -/
def Obligations.UnassignedRejected : Prop :=
  (∀ dev op : Byte, (∃ i, decode [dev, op] = .ok i) ↔ op = 0x96#8 ∨ op = 0x91#8 ∨ op = 0x05#8) ∧
  (∀ dev op status : Byte, (∃ i, decode [dev, op, status] = .ok i) ↔ op = 0x6E#8) ∧
  (∀ dev op hi lo : Byte, (∃ i, decode [dev, op, hi, lo] = .ok i) ↔ op = 0x03#8 ∨ op = 0x6C#8) ∧
  (∀ bytes : List Byte, bytes.length = 0 ∨ bytes.length = 5 ∨ bytes.length = 6 ∨ 8 ≤ bytes.length →
    decode bytes = .error (.badLength bytes.length))

/-- The operand registers a presented request leaves decode to that request (R114, R124). -/
def Obligations.FetchPresented : Prop :=
  ∀ (i : Instr) (s : State), i.isRequest = true → fetchRequest { s with opnd := present i s.opnd } = .ok i

/-! ## The step -/

/-- START begins the operation that the request registers hold, and is ignored while `BUSY = 1` (43_device_operations.md
R204, R212). That one step is exec of the whole request is the model's choice of a step's size (log 1), which 45_sequencer_fsm.md
R256 leaves to it. -/
def Obligations.StepRunsRequest : Prop :=
  ∀ (s : State) (rest : List HostMove), s.env.moves = .start :: rest →
    (∀ i, s.res.busy = false → fetchRequest s = .ok i →
      step s = exec i { s with env := { s.env with moves := rest } }) ∧
    (s.res.busy = true → step s = .next { s with env := { s.env with moves := rest } })

/-- Where the sequencer stands at a wire command, at the start header or at a slot, the step runs that instruction, with
what the sequencer adds around it (45_sequencer_fsm.md R241 to R246). -/
def Obligations.StepRunsWireInstruction : Prop :=
  ∀ s : State, nextMove s = .wait →
    (∀ i, s.seq.phase = .cmdFrame → atCommandStart s = true → fetchWire s = some i →
      step s = andThen (exec i (popMove s)) fun t => .next (setPhase .csExit t)) ∧
    (s.seq.phase = .hdrHold → step s = andThen (exec .startHeader (popMove s)) fun t => .next (nextFrame .cmdFrame 0 t)) ∧
    (isFramePhase s.seq.phase = true → s.slotE.qtr = 0 →
      (s.seq.phase = .cmdFrame → atCommandStart s = true → fetchWire s = none) →
      step s = andThen (frameStart (popMove s)) fun t =>
        andThen (exec (if slotInput t then .bit1 else .bit0) (slotBefore t)) fun u => .next (slotAfter u))

/-- A table word placed where the step fetches it is the instruction the next step runs. -/
def Obligations.PlacedWordRuns : Prop :=
  ∀ (s : State) (nbits w : Nat) (i : Instr), decodeTableWord nbits w = some i →
    step (s.withFetchWord nbits w) = aroundExec i (popMove (s.withFetchWord nbits w))

/-- The host's moves (10_state.md R62, R41; 70_reset_and_hazards.md R290; 45_sequencer_fsm.md R233): operand registers, `IE`
and buffer are written while `BUSY = 0` and refused while `BUSY = 1`; reset, from wherever the engine stands, leaves `IE` and the
buffer; START alone goes to `DISPATCH`; a tick is one step of the sequencer; an idle engine does nothing. -/
def Obligations.HostMoves : Prop :=
  ∀ (s : State) (rest : List HostMove),
    (∀ r v, s.env.moves = .writeReg r v :: rest → s.res.busy = false →
      step s = .next { s with opnd := writeReg r v s.opnd, env := { s.env with moves := rest } }) ∧
    (∀ v, s.env.moves = .writeIe v :: rest → s.res.busy = false →
      step s = .next { s with host := { s.host with ie := v }, env := { s.env with moves := rest } }) ∧
    (∀ i v, s.env.moves = .writeBuf i v :: rest → s.res.busy = false → i < s.host.bufSize →
      step s = .next { s with
        host := { s.host with buf := memWrite s.host.buf i v }, env := { s.env with moves := rest } }) ∧
    (∀ m, s.env.moves = m :: rest → s.res.busy = true →
      (∃ r v, m = .writeReg r v) ∨ (∃ v, m = .writeIe v) ∨ (∃ i v, m = .writeBuf i v ∧ i < s.host.bufSize) →
      step s = .refused .hostWriteWhileBusy) ∧
    (s.env.moves = .rst :: rest →
      step s = .next { State.reset with host := s.host, env := { s.env with moves := rest }, trace := s.trace }) ∧
    (s.env.moves = .startPulse :: rest → s.res.busy = false →
      step s = .next { s with
        res := { s.res with busy := true, done := false }, seq := { s.seq with phase := .dispatch },
        env := { s.env with moves := rest } }) ∧
    (s.env.moves = .startPulse :: rest → s.res.busy = true →
      step s = .next { s with env := { s.env with moves := rest } }) ∧
    (s.env.moves = .tick :: rest → step s = fsmStep { s with env := { s.env with moves := rest } }) ∧
    (nextMove s = .wait → s.seq.phase = .idle → step s = .next (popMove s))

/-- The values 10_state.md R59 gives after hardware reset; every register it leaves unspecified is the model's choice
(log 4, 5, 6) and is not stated here. -/
def Obligations.ResetValues : Prop :=
  State.reset.line = { dir := .input, lvl := true } ∧ State.reset.inited = false ∧ State.reset.res.busy = false ∧
  State.reset.res.done = false ∧ State.reset.seq.phase = .idle ∧ State.reset.slotE.qtr = 0 ∧
  State.reset.frame.slot = 0 ∧ State.reset.slotE.tmr = 0 ∧
  (∀ e : Env, envDrive e 0 = none → wireLevel { State.reset with env := e } = true)

/-! ## Line and slots -/

/-- `DIR(d)` (40_bus_primitive.md R140): the direction and the trace, nothing else; `DIR(out)` puts the latch on the pad,
whatever was written to it while released. -/
def Obligations.DirectionOp : Prop :=
  ∀ (d : Direction) (s : State),
    dirOp d s = { s with line := { dir := d, lvl := s.line.lvl }, trace := .dir d :: s.trace } ∧
    (driveAt s 0 = none → wireLevel (dirOp .output s) = s.line.lvl) ∧
    (driveAt s 0 = none → ∀ v, wireLevel (dirOp .output (lvlOp v (dirOp .input s))) = v)

/-- `LVL(v)` and `SMP` (R141, R142, R143): the latch alone; a sample is the latch on a driven line that nobody drives
against, and on a released line the environment's level or the pull-up. -/
def Obligations.LevelAndSample : Prop :=
  ∀ (v : Bool) (s : State),
    lvlOp v s = { s with line := { s.line with lvl := v }, trace := .lvl v :: s.trace } ∧
    sampleA s = { s with slotE := { s.slotE with sa := wireLevel s }, env := s.env.after 1, trace := .smp (wireLevel s) :: s.trace } ∧
    sampleB s = { s with slotE := { s.slotE with sb := wireLevel s }, env := s.env.after 1, trace := .smp (wireLevel s) :: s.trace } ∧
    (s.line.dir = .output → driveAt s 0 = none ∨ driveAt s 0 = some s.line.lvl → wireLevel s = s.line.lvl) ∧
    (s.line.dir = .input → driveAt s 0 = none → wireLevel s = true) ∧
    (∀ b, s.line.dir = .input → driveAt s 0 = some b → wireLevel s = b)

/-- BIT1 and BIT0 complete in every state (30_encoding.md R101, 40_bus_primitive.md R145): the eight micro-operations, the
latch at the slot's value, two answers used up, the two samples; nothing else changes. -/
def Obligations.SlotCompletes : Prop :=
  ∀ (w : Bool) (s : State), ∃ a b,
    exec (if w then .bit1 else .bit0) s = .next { s with
      line := { dir := s.line.dir, lvl := w }
      slotE := { sa := a, sb := b, qtr := 0, tmr := 0 }
      env := s.env.after 2
      trace := [.dly .quarter, .smp b, .dly .quarter, .lvl w, .dly .quarter, .smp a, .dly .quarter, .lvl (!w)] ++ s.trace } ∧
    (s.line.dir = .input → a = (driveAt s 0).getD true ∧ b = (driveAt s 1).getD true) ∧
    (s.line.dir = .output →
      (driveAt s 0 = none ∨ driveAt s 0 = some (!w) → a = !w) ∧ (driveAt s 1 = none ∨ driveAt s 1 = some w → b = w))

/-- Decoding of one slot (30_encoding.md R102): `SB ∧ ¬SA` of the two samples of a released slot, taken after its first and its
third quarter's wait; low then high is 1, the three other pairs are 0. -/
def Obligations.SlotDecoding : Prop :=
  ∀ s : State, s.line.dir = .input → ∃ t, exec .bit1 s = .next t ∧ traced s t (slotShape true) ∧
    t.slotE.sa = (driveAt s 0).getD true ∧ t.slotE.sb = (driveAt s 1).getD true ∧
    (t.slotE.sa = false → t.slotE.sb = true → observed t = true) ∧
    (t.slotE.sa = true → t.slotE.sb = false → observed t = false) ∧
    (t.slotE.sa = true → t.slotE.sb = true → observed t = false) ∧
    (t.slotE.sa = false → t.slotE.sb = false → observed t = false)

/-! ## Frames -/

/-- `send_byte(value, more_follows)` (41_byte_framing.md R160): 82 micro-operations, `ACK` from the samples of slot 9 alone,
the byte shifted out; nothing outside the line, the slot and frame engines, the answers and the trace changes. -/
def Obligations.SentFrame : Prop :=
  ∀ (v : Byte) (more : Bool) (s : State), let t := sendByte v more s
    t.frame = { shr := 0#8, slot := 9, makb := more, ack := ackAt s 0 } ∧
    traced s t (BusFrame.shape (.sent v more)) ∧ (BusFrame.shape (.sent v more)).length = 82 ∧
    t.line = { dir := .output, lvl := true } ∧ t.slotE.qtr = 0 ∧ t.slotE.tmr = 0 ∧ t.env = s.env.after 20 ∧
    SameBesidesFrames s t

/-- `receive_byte(more_follows)` (R161): 84 micro-operations, the value the eight decoded slots most significant first
whatever `SHR` held, `ACK` from slot 9; where the value is stored is `ReceivedRunStored`. -/
def Obligations.ReceivedFrame : Prop :=
  ∀ (more : Bool) (s : State), let t := receiveByte more s
    t.frame = { shr := byteAt s 0, slot := 9, makb := more, ack := ackAt s 0 } ∧
    traced s t (BusFrame.shape (.received more)) ∧ (BusFrame.shape (.received more)).length = 84 ∧
    t.line = { dir := .output, lvl := true } ∧ t.slotE.qtr = 0 ∧ t.slotE.tmr = 0 ∧ t.env = s.env.after 20 ∧
    t.desc = s.desc ∧ t.opnd = s.opnd ∧ t.seq = s.seq ∧ t.orch = s.orch ∧ t.savedIe = s.savedIe ∧ t.inited = s.inited ∧
    t.res.success = s.res.success ∧ t.res.busy = s.res.busy ∧ t.res.done = s.res.done ∧
    t.host.ie = s.host.ie ∧ t.host.bufSize = s.host.bufSize

/-- `send_buffer(data, n, terminate_at_end)` (R162, R164) over both its sources, the command buffer and the host buffer: frames
in order up to the first without acknowledgment, MAK on all but a last one that terminates, `OK <- 0` on a failure and
`BYTEIDX` the last frame's; an empty run does nothing. -/
def Obligations.SendRun : Prop :=
  ∀ (source : State → Nat → Byte) (n : Nat) (terminate : Bool) (s : State),
    (source = fun u i => cmdByte u.desc.cmd i) ∨ (source = fun u i => memRead u.host.buf (u.desc.pbase.toNat + i)) →
    let t := sendBuffer source n terminate n s
    let r := framesRun s 0 n
    (n = 0 → t = s) ∧
    t.seq.ok = (s.seq.ok && allAcked s 0 n) ∧ (n ≠ 0 → t.seq.byteidx = BitVec.ofNat 16 (r - 1)) ∧
    t.seq.phase = s.seq.phase ∧ t.seq.curop = s.seq.curop ∧
    traced s t (framesShape ((sentRun terminate ((List.range n).map (source s))).take r)) ∧
    t.env = s.env.after (20 * r) ∧
    (n ≠ 0 → t.line = { dir := .output, lvl := true } ∧ t.frame.ack = ackAt s (20 * (r - 1))) ∧
    t.desc = s.desc ∧ t.opnd = s.opnd ∧ t.res = s.res ∧ t.orch = s.orch ∧ t.savedIe = s.savedIe ∧ t.inited = s.inited ∧
    t.host = s.host

/-- `receive_buffer(count)` (R163, R164): frames in order up to the first without acknowledgment, MAK on all but the last,
`OK <- 0` on a failure and `BYTEIDX` the last frame's; an empty run does nothing. -/
def Obligations.ReceiveRun : Prop :=
  ∀ (n : Nat) (s : State), let t := receiveBuffer n n s
    let r := framesRun s 0 n
    (n = 0 → t = s) ∧
    t.seq.ok = (s.seq.ok && allAcked s 0 n) ∧ (n ≠ 0 → t.seq.byteidx = BitVec.ofNat 16 (r - 1)) ∧
    t.seq.phase = s.seq.phase ∧ t.seq.curop = s.seq.curop ∧
    traced s t (framesShape ((receivedRun n).take r)) ∧ t.env = s.env.after (20 * r) ∧
    (n ≠ 0 → t.line = { dir := .output, lvl := true } ∧ t.frame.ack = ackAt s (20 * (r - 1))) ∧
    t.desc = s.desc ∧ t.opnd = s.opnd ∧ t.orch = s.orch ∧ t.savedIe = s.savedIe ∧ t.inited = s.inited ∧
    t.res.success = s.res.success ∧ t.res.busy = s.res.busy ∧ t.res.done = s.res.done ∧
    t.host.ie = s.host.ie ∧ t.host.bufSize = s.host.bufSize

/-- What a run of receptions stores (R163, R169, 20_memory.md R72): byte `i` of the frames that ran, the failing one
included, at `PBASE + i`, every other byte keeping its value; or in `STATUS_R`; a descriptor without a destination stores
nothing. That the failing frame's byte is stored is the spec's own decision D18 (log 16). What is read back is said of a buffer
in canonical form (`Memory.wf`, of `State.bufferForm`; log 6), as every reachable one is. -/
def Obligations.ReceivedRunStored : Prop :=
  ∀ (n : Nat) (s : State), n ≤ 65536 → let t := receiveBuffer n n s
    let r := framesRun s 0 n
    (s.desc.pdir = .rxBuf → t.res = s.res ∧
      (s.host.buf.wf = true → ∀ a, memRead t.host.buf a =
        if s.desc.pbase.toNat ≤ a ∧ a < s.desc.pbase.toNat + r then byteAt s (20 * (a - s.desc.pbase.toNat))
        else memRead s.host.buf a)) ∧
    (s.desc.pdir = .rxStatus → t.host = s.host ∧ (n ≠ 0 → t.res.statusR = byteAt s (20 * (r - 1)))) ∧
    (s.desc.pdir = .none ∨ s.desc.pdir = .tx → t.host = s.host ∧ t.res = s.res)

/-! ## Leads and header -/

/-- `standby_pulse()` (42_command_protocol.md R180): four micro-operations, the latch high, the direction as it was. -/
def Obligations.StandbyPulse : Prop :=
  600 ≤ Config.micros .stby ∧ Config.tSetup ≤ Config.micros .setup ∧
  ∀ s : State, standbyPulse s = { s with
    line := { dir := s.line.dir, lvl := true }
    slotE := { s.slotE with tmr := 0 }
    trace := [.dly .stby, .lvl true, .dly .setup, .lvl false] ++ s.trace }

/-- `inter_command_gap()` (R181): two micro-operations, the latch high; with the latch high before it the wire does not
change; it stands before `CS_ENTER`. -/
def Obligations.InterCommandGap : Prop :=
  10 ≤ Config.micros .gap ∧
  ∀ s : State,
    interCommandGap s = { s with
      line := { dir := s.line.dir, lvl := true }
      slotE := { s.slotE with tmr := 0 }
      trace := [.dly .gap, .lvl true] ++ s.trace } ∧
    (s.line.lvl = true → (interCommandGap s).line = s.line) ∧
    (s.desc.lead = .gap → [.csEnter, .dly .gap, .lvl true] ++ s.trace <:+ (transaction s).trace)

/-- `start_header()` (R182): the header hold and the 82 micro-operations of `send_byte(0x55, 1)`; it completes whatever the
samples, and changes nothing outside the line, the slot and frame engines, the answers and the trace; in a transaction it
stands inside the critical section. -/
def Obligations.StartHeader : Prop :=
  5 ≤ Config.micros .hdr ∧
  (∀ s : State, let u := csEnter (leadIn (setOk true s))
    u.host.ie = false ∧ (startHeader u).trace <:+ (transaction s).trace ∧
      [.dly .hdr, .lvl false, .csEnter] ++ (leadIn (setOk true s)).trace <:+ (startHeader u).trace) ∧
  ∀ s : State, ∃ t, exec .startHeader s = .next t ∧
    traced s t ([.lvl false, .dly .hdr] ++ BusFrame.shape (.sent 0x55#8 true)) ∧
    (BusFrame.shape (.sent 0x55#8 true)).length = 82 ∧
    t.frame = { shr := 0#8, slot := 9, makb := true, ack := ackAt s 0 } ∧
    t.line = { dir := .output, lvl := true } ∧ t.slotE.qtr = 0 ∧ t.slotE.tmr = 0 ∧ t.env = s.env.after 20 ∧
    SameBesidesFrames s t

/-- The header's acknowledgment is ignored (R183, 30_encoding.md R106): two environments that differ in the two samples of the
header's slot 9 alone give transactions that differ in those samples' values in the trace alone. -/
def Obligations.HeaderAckIgnored : Prop :=
  ∀ (s : State) (header rest : List Drive) (a b c d : Drive), header.length = 18 → s.desc.cmdlen ≠ 0 →
    let first := transaction { s with env := { s.env with script := header ++ [a, b] ++ rest } }
    let second := transaction { s with env := { s.env with script := header ++ [c, d] ++ rest } }
    { first with trace := [] } = { second with trace := [] } ∧ shapeOf first.trace = shapeOf second.trace

/-! ## Wire commands -/

/-- WREN and WRDI (30_encoding.md R108, R110): device address with MAK, opcode with NoMAK. -/
def Obligations.WireWriteEnable : Prop :=
  ∀ (dev : Byte) (s : State),
    (∃ t, exec (.wireWren dev) s = .next t ∧ WireDone [.sent dev true, .sent 0x96#8 false] s t ∧
      t.desc = { s.desc with
        cmd := { s.desc.cmd with c0 := dev, c1 := 0x96#8 }, cmdlen := 2, cmdterm := true, pdir := .none, plen := 0 } ∧
      t.res = s.res ∧ t.host = s.host) ∧
    (∃ t, exec (.wireWrdi dev) s = .next t ∧ WireDone [.sent dev true, .sent 0x91#8 false] s t ∧
      t.desc = { s.desc with
        cmd := { s.desc.cmd with c0 := dev, c1 := 0x91#8 }, cmdlen := 2, cmdterm := true, pdir := .none, plen := 0 } ∧
      t.res = s.res ∧ t.host = s.host)

/-- RDSR and WRSR (R108, R110, R119): the status byte received with NoMAK into `STATUS_R` (43_device_operations.md R209), or sent
with NoMAK. That `STATUS_R` keeps the byte of a status frame left without acknowledgment is the spec's own decision
(41_byte_framing.md R169, D18; log 16). -/
def Obligations.WireStatus : Prop :=
  ∀ (dev status : Byte) (s : State),
    (∃ t, exec (.wireRdsr dev) s = .next t ∧
      WireDone [.sent dev true, .sent 0x05#8 true, .received false] s t ∧
      t.desc = { s.desc with
        cmd := { s.desc.cmd with c0 := dev, c1 := 0x05#8 }, cmdlen := 2, cmdterm := false, pdir := .rxStatus, plen := 1 } ∧
      t.res.statusR = (if allAcked s 0 2 then byteAt s 40 else s.res.statusR) ∧ t.host = s.host) ∧
    (∃ t, exec (.wireWrsr dev status) s = .next t ∧
      WireDone [.sent dev true, .sent 0x6E#8 true, .sent status false] s t ∧
      t.desc = { s.desc with
        cmd := { s.desc.cmd with c0 := dev, c1 := 0x6E#8, c2 := status }, cmdlen := 3, cmdterm := true, pdir := .none,
        plen := 0 } ∧
      t.res = s.res ∧ t.host = s.host)

/-- READ (R108, R110, R113): four frames with MAK, then `LENGTH` received frames, NoMAK on the last; the bytes of the frames
that ran land in the buffer from index 0, every other byte keeps its value; that the byte of a frame left without acknowledgment
lands too is the spec's own decision (41_byte_framing.md R169, D18; log 16). It completes in every state whose `LENGTH` fits the
buffer; what is read back is said of a buffer in canonical form (`Memory.wf`; log 6), as every reachable one is. -/
def Obligations.WireRead : Prop :=
  ∀ (dev hi lo : Byte) (s : State), s.opnd.length.toNat ≤ s.host.bufSize →
    ∃ t, exec (.wireRead dev hi lo) s = .next t ∧
      WireDone ([.sent dev true, .sent 0x03#8 true, .sent hi true, .sent lo true] ++ receivedRun s.opnd.length.toNat) s t ∧
      t.desc = { s.desc with
        cmd := { c0 := dev, c1 := 0x03#8, c2 := hi, c3 := lo }, cmdlen := 4, cmdterm := false, pdir := .rxBuf, pbase := 0,
        plen := s.opnd.length } ∧
      t.res = s.res ∧
      (s.host.buf.wf = true → ∀ a, memRead t.host.buf a =
        if 4 + a < framesRun s 0 (4 + s.opnd.length.toNat) then byteAt s (20 * (4 + a)) else memRead s.host.buf a)

/-- WRITE (R108, R110, R113): four frames with MAK, then the payload's bytes from the buffer at `CUR_PTR`, NoMAK on the
last; there are `CHUNK` of them inside `simple_write`, else `LENGTH` (45_sequencer_fsm.md R235). -/
def Obligations.WireWrite : Prop :=
  ∀ (dev hi lo : Byte) (n : Half) (s : State),
    n = (if s.opnd.opsel = 8#4 then s.orch.chunk.setWidth 16 else s.opnd.length) →
    s.orch.curPtr.toNat + n.toNat ≤ s.host.bufSize →
    ∃ t, exec (.wireWrite dev hi lo) s = .next t ∧
      WireDone ([.sent dev true, .sent 0x6C#8 true, .sent hi true, .sent lo true] ++
        sentRun true (bufferBytes s.host.buf s.orch.curPtr.toNat n.toNat)) s t ∧
      t.desc = { s.desc with
        cmd := { c0 := dev, c1 := 0x6C#8, c2 := hi, c3 := lo }, cmdlen := 4, cmdterm := false, pdir := .tx,
        pbase := s.orch.curPtr, plen := n } ∧
      t.res = s.res ∧ t.host = s.host

/-- The reserved opcodes have no meaning and no operation emits one; the decoder names them (30_encoding.md R111). -/
def Obligations.ReservedOpcodesRefused : Prop :=
  (∀ s : State, exec .crrd s = .refused (.reservedOpcode 0x06#8) ∧ exec .eral s = .refused (.reservedOpcode 0x6D#8) ∧
    exec .setal s = .refused (.reservedOpcode 0x67#8)) ∧
  (decodeTableWord 8 0x06 = some .crrd ∧ decodeTableWord 8 0x6D = some .eral ∧ decodeTableWord 8 0x67 = some .setal) ∧
  ∀ (op : DevOp) (s : State), (descRow op s).cmd.c1 ≠ 0x06#8 ∧ (descRow op s).cmd.c1 ≠ 0x6D#8 ∧
    (descRow op s).cmd.c1 ≠ 0x67#8

/-- A payload that does not fit the buffer is refused before anything is put on the wire (20_memory.md R71; log 8). -/
def Obligations.BufferRangeRefused : Prop :=
  ∀ (dev hi lo : Byte) (offset length : Half) (s : State),
    (s.host.bufSize < s.opnd.length.toNat →
      exec (.wireRead dev hi lo) s = .refused (.bufferRange (s.opnd.length.toNat - 1))) ∧
    (s.host.bufSize < s.orch.curPtr.toNat + (writeCount s).toNat →
      exec (.wireWrite dev hi lo) s = .refused (.bufferRange (s.orch.curPtr.toNat + (writeCount s).toNat - 1))) ∧
    (s.ready → s.host.bufSize < length.toNat →
      exec (.read dev offset length) s = .refused (.bufferRange (length.toNat - 1)) ∧
      (offset.toNat % 16 + length.toNat ≤ 16 →
        exec (.startWrite dev offset length) s = .refused (.bufferRange (length.toNat - 1))) ∧
      exec (.simpleWrite dev offset length) s = .refused (.bufferRange (length.toNat - 1)))

/-! ## Host operations -/

/-- `init()` (43_device_operations.md R193, R205): `LVL(1)`, `DIR(out)`, `INITED <- 1`, success; nothing else changes. -/
def Obligations.InitResult : Prop :=
  ∀ s : State, s.res.busy = false →
    exec .init s = .next { s with
      line := { dir := .output, lvl := true }
      opnd := { s.opnd with opsel := 0#4 }
      res := { success := true, statusR := s.res.statusR, busy := false, done := true }
      seq := { s.seq with phase := .idle, ok := true }
      inited := true
      trace := [.dir .output, .lvl true] ++ s.trace }

/-- `enable_write` (R197): the session of `T:DEVADDR M`, `T:96 N`, its result, its frame. The NoMAK is the spec's own reading of
a silent table cell (30_encoding.md R110, D13; log 16). -/
def Obligations.EnableWrite : Prop :=
  ∀ (dev : Byte) (s : State), s.ready →
    ∃ t, exec (.enableWrite dev) s = .next t ∧
      SessionDone .enableWrite [.sent dev true, .sent 0x96#8 false] s t ∧
      t.opnd = { s.opnd with opsel := 3#4, devaddr := dev } ∧
      t.desc = { s.desc with
        cmd := { s.desc.cmd with c0 := dev, c1 := 0x96#8 }, cmdlen := 2, cmdterm := true, pdir := .none, plen := 0,
        lead := .standby } ∧
      t.orch = s.orch ∧ t.res.statusR = s.res.statusR ∧ t.host = s.host

/-- `disable_write` (R198): the session of `T:DEVADDR M`, `T:91 N`, its result, its frame. The NoMAK is the spec's own reading of
a silent table cell (30_encoding.md R110, D13; log 16). -/
def Obligations.DisableWrite : Prop :=
  ∀ (dev : Byte) (s : State), s.ready →
    ∃ t, exec (.disableWrite dev) s = .next t ∧
      SessionDone .disableWrite [.sent dev true, .sent 0x91#8 false] s t ∧
      t.opnd = { s.opnd with opsel := 4#4, devaddr := dev } ∧
      t.desc = { s.desc with
        cmd := { s.desc.cmd with c0 := dev, c1 := 0x91#8 }, cmdlen := 2, cmdterm := true, pdir := .none, plen := 0,
        lead := .standby } ∧
      t.orch = s.orch ∧ t.res.statusR = s.res.statusR ∧ t.host = s.host

/-- `read_status` (R199): the session of `T:DEVADDR M`, `T:05 M`, `R:ss N`; the byte decoded in the third frame, if it
ran, is in `STATUS_R`, acknowledged or not; that an unacknowledged byte is kept is the spec's own decision (41_byte_framing.md
R169, D18; log 16). -/
def Obligations.ReadStatus : Prop :=
  ∀ (dev : Byte) (s : State), s.ready →
    ∃ t, exec (.readStatus dev) s = .next t ∧
      SessionDone .readStatus [.sent dev true, .sent 0x05#8 true, .received false] s t ∧
      t.opnd = { s.opnd with opsel := 5#4, devaddr := dev } ∧
      t.desc = { s.desc with
        cmd := { s.desc.cmd with c0 := dev, c1 := 0x05#8 }, cmdlen := 2, cmdterm := false, pdir := .rxStatus, plen := 1,
        lead := .standby } ∧
      t.orch = s.orch ∧ t.res.statusR = (if allAcked s 1 2 then byteAt s 60 else s.res.statusR) ∧ t.host = s.host

/-- `write_status` (R200): the session of `T:DEVADDR M`, `T:6E M`, `T:STATUS_W N`, its result, its frame. -/
def Obligations.WriteStatus : Prop :=
  ∀ (dev status : Byte) (s : State), s.ready →
    ∃ t, exec (.writeStatus dev status) s = .next t ∧
      SessionDone .writeStatus [.sent dev true, .sent 0x6E#8 true, .sent status false] s t ∧
      t.opnd = { s.opnd with opsel := 6#4, devaddr := dev, statusW := status } ∧
      t.desc = { s.desc with
        cmd := { s.desc.cmd with c0 := dev, c1 := 0x6E#8, c2 := status }, cmdlen := 3, cmdterm := true, pdir := .none,
        plen := 0, lead := .standby } ∧
      t.orch = s.orch ∧ t.res.statusR = s.res.statusR ∧ t.host = s.host

/-- `read` (R194): the session of `T:DEVADDR M`, `T:03 M`, `T:hi M`, `T:lo M` and `LENGTH` received frames, NoMAK on the
last; the buffer holds the bytes of the receptions that ran from index 0, on success all `LENGTH` of them and on a failure in
reception `K` bytes 0 to `K` as decoded (41_byte_framing.md R169, D18; log 16); every other byte keeps its value. What is read
back is said of a buffer in canonical form (`Memory.wf`; log 6), as every reachable one is. -/
def Obligations.Read : Prop :=
  ∀ (dev : Byte) (offset length : Half) (s : State), s.ready → length.toNat ≤ s.host.bufSize →
    ∃ t, exec (.read dev offset length) s = .next t ∧
      SessionDone .read ([.sent dev true, .sent 0x03#8 true, .sent (hiByte offset) true, .sent (loByte offset) true] ++
        receivedRun length.toNat) s t ∧
      t.opnd = { s.opnd with opsel := 1#4, devaddr := dev, offset := offset, length := length } ∧
      t.desc =
        { cmd := { c0 := dev, c1 := 0x03#8, c2 := hiByte offset, c3 := loByte offset }, cmdlen := 4, cmdterm := false,
          pdir := .rxBuf, pbase := 0, plen := length, lead := .standby } ∧
      t.orch = { s.orch with curAddr := offset } ∧ t.res.statusR = s.res.statusR ∧
      (s.host.buf.wf = true →
        (t.res.success = true → ∀ a < length.toNat, memRead t.host.buf a = byteAt s (20 * (5 + a))) ∧
        ∀ a, memRead t.host.buf a =
          if 4 + a < framesRun s 1 (4 + length.toNat) then byteAt s (20 * (5 + a)) else memRead s.host.buf a)

/-- `start_write` of a span inside a page (R195): the session of `T:DEVADDR M`, `T:6C M`, `T:hi M`, `T:lo M` and the
buffer's first `LENGTH` bytes, NoMAK on the last. -/
def Obligations.StartWrite : Prop :=
  ∀ (dev : Byte) (offset length : Half) (s : State), s.ready → offset.toNat % 16 + length.toNat ≤ 16 →
    length.toNat ≤ s.host.bufSize →
    ∃ t, exec (.startWrite dev offset length) s = .next t ∧
      SessionDone .startWrite ([.sent dev true, .sent 0x6C#8 true, .sent (hiByte offset) true, .sent (loByte offset) true] ++
        sentRun true (bufferBytes s.host.buf 0 length.toNat)) s t ∧
      t.opnd = { s.opnd with opsel := 2#4, devaddr := dev, offset := offset, length := length } ∧
      t.desc =
        { cmd := { c0 := dev, c1 := 0x6C#8, c2 := hiByte offset, c3 := loByte offset }, cmdlen := 4, cmdterm := false,
          pdir := .tx, pbase := 0, plen := length, lead := .standby } ∧
      t.orch = { s.orch with curAddr := offset, curPtr := 0 } ∧ t.res.statusR = s.res.statusR ∧ t.host = s.host

/-- `start_write` of a span that crosses a page (R196, 60_exceptions.md R261): failure with an empty trace; `IE`, the buffer
and the line are not touched. -/
def Obligations.PageViolation : Prop :=
  ∀ (dev : Byte) (offset length : Half) (s : State), s.ready → 16 < offset.toNat % 16 + length.toNat →
    ∃ t, exec (.startWrite dev offset length) s = .next t ∧ finished false t ∧ Untouched s t ∧
      t.opnd = { s.opnd with opsel := 2#4, devaddr := dev, offset := offset, length := length } ∧
      t.desc =
        { cmd := { c0 := dev, c1 := 0x6C#8, c2 := hiByte offset, c3 := loByte offset }, cmdlen := 4, cmdterm := false,
          pdir := .tx, pbase := 0, plen := length, lead := .standby } ∧
      t.seq.curop = .op .startWrite ∧ t.seq.byteidx = s.seq.byteidx ∧
      t.orch = { s.orch with curAddr := offset, curPtr := 0 }

/-- A reserved request, and any operation but `init` before `init`, complete at once with `SUCCESS = 0` and nothing on the line
(30_encoding.md R115, 43_device_operations.md R211, 45_sequencer_fsm.md R234), the rest of the state staying; any request
started while `BUSY = 1` changes nothing (R212). -/
def Obligations.RefusedRequests : Prop :=
  ∀ (i : Instr) (s : State), i.isRequest = true →
    (s.res.busy = false → i.opselAssigned = false ∨ (i ≠ .init ∧ s.inited = false) →
      exec i s = .next { s with
        opnd := present i s.opnd
        res := { success := false, statusR := s.res.statusR, busy := false, done := true }
        seq := { s.seq with phase := .idle, ok := false } }) ∧
    (s.res.busy = true → exec i s = .next s)

/-- Every request answers a next state unless its bytes do not fit the buffer: it has completed, or it is a completion poll that
the device still answers with a write in progress, `BUSY` then being 1 (60_exceptions.md R278). `IE` and the operand
registers are the host's either way (R214, R281). That a reserved request and an operation before `init` answer a next state is the
model's choice of the hardware's effect where 30_encoding.md R115 and 43_device_operations.md R211 let a model refuse
(log 9, log 10); that a step stops between two polls is log 19, that it refuses only what does not fit the buffer log 8. -/
def Obligations.RequestsAnswer : Prop :=
  ∀ (i : Instr) (s : State), i.isRequest = true → s.res.busy = false →
    (∀ dev offset length, i = .read dev offset length ∨ i = .startWrite dev offset length ∨ i = .simpleWrite dev offset length →
      length.toNat ≤ s.host.bufSize) →
    ∃ t, exec i s = .next t ∧ t.opnd = present i s.opnd ∧ t.host.ie = s.host.ie ∧ t.host.bufSize = s.host.bufSize ∧
      ((t.res.done = true ∧ t.res.busy = false ∧ t.seq.phase = .idle ∧ t.res.success = t.seq.ok) ∨
       (t.res.done = false ∧ t.res.busy = true ∧ t.seq.phase = .gap ∧ t.seq.curop = .op .await ∧ t.seq.ok = true ∧
        t.res.statusR.getLsbD 0 = true ∧
        ((∃ dev, i = .awaitWriteComplete dev) ∨ ∃ dev offset length, i = .simpleWrite dev offset length)))

/-! ## Completion poll -/

/-- `await_write_complete` (43_device_operations.md R206, R207): a standby pulse, then `m` polls that are acknowledged and busy
and one that ends the loop: with success when it is acknowledged and reports no write in progress, with failure at its
first missing acknowledgment. The ending poll is the first, or begins before the script is used up (log 19). That `STATUS_R` keeps
the byte of a poll left without acknowledgment is the spec's own decision (41_byte_framing.md R169, D18; log 16). -/
def Obligations.AwaitEnds : Prop :=
  ∀ (dev : Byte) (m : Nat) (s : State), s.ready → m = 0 ∨ 80 * m < s.env.script.length →
    (∀ j < m, pollAcked s j = true ∧ (pollStatus s j).getLsbD 0 = true) →
    (pollAcked s m = false ∨ (pollStatus s m).getLsbD 0 = false) →
    let r := framesRun s (4 * m + 1) 3
    ∃ t, exec (.awaitWriteComplete dev) s = .next t ∧ finished (pollAcked s m) t ∧
      traced s t (standbyShape ++ (List.replicate m (sessionShape gapShape s.host.ie (rdsrFrames dev))).flatten ++
        sessionShape gapShape s.host.ie ((rdsrFrames dev).take r)) ∧
      t.env = s.env.after (20 * (4 * m + 1 + r)) ∧
      t.line = { dir := .output, lvl := true } ∧ t.host = s.host ∧ t.savedIe = s.host.ie ∧ t.inited = true ∧
      t.orch = s.orch ∧ t.seq.curop = .op .await ∧
      t.opnd = { s.opnd with opsel := 7#4, devaddr := dev } ∧
      t.desc = { descRdsr s dev with lead := .gap } ∧
      t.res.statusR = (if r = 3 then pollStatus s m else if m = 0 then s.res.statusR else pollStatus s (m - 1))

/-- `await_write_complete` while every poll of the step is busy (60_exceptions.md R278): after the `m` polls that begin before the
script is used up, or the one poll that runs in any case, it has not completed; `BUSY` stays 1, the next thing to do is another
gap and poll, and `IE` has its prior value (R208). Which polls a step runs is the model's choice (log 19). -/
def Obligations.AwaitWaits : Prop :=
  ∀ (dev : Byte) (m : Nat) (s : State), s.ready → m = 1 ∨ (m ≠ 0 ∧ 80 * (m - 1) < s.env.script.length) →
    s.env.script.length ≤ 80 * m →
    (∀ j < m, pollAcked s j = true ∧ (pollStatus s j).getLsbD 0 = true) →
    ∃ t, exec (.awaitWriteComplete dev) s = .next t ∧ t.res.busy = true ∧ t.res.done = false ∧ t.seq.phase = .gap ∧
      t.seq.curop = .op .await ∧ t.seq.ok = true ∧ t.host = s.host ∧ t.line = { dir := .output, lvl := true } ∧
      t.desc = { descRdsr s dev with lead := .gap } ∧ t.opnd = { s.opnd with opsel := 7#4, devaddr := dev } ∧
      t.orch = s.orch ∧ t.inited = true ∧ t.savedIe = s.host.ie ∧ t.res.success = s.res.success ∧ t.slotE.qtr = 0 ∧
      t.env = s.env.after (80 * m) ∧ t.res.statusR = pollStatus s (m - 1) ∧
      traced s t (standbyShape ++ (List.replicate m (pollShape s.host.ie dev)).flatten)

/-- A busy poll brings the engine back to where it began it (R207, R248, R278): six steps from the gap to the next gap, with
one poll on the line, `BUSY` still 1 and `IE` restored. As often as the device answers so, the engine goes on so. That the cycle
is six steps rests on the model's size of a step (log 1) and on a wire command taken as one instruction (log 17). -/
def Obligations.PollCycle : Prop :=
  ∀ s : State, s.env.moves = [] → s.seq.phase = .gap → s.seq.curop = .op .await → s.slotE.qtr = 0 →
    s.desc = { descRdsr s s.opnd.devaddr with lead := .gap } →
    pollAcked s 0 = true → (pollStatus s 0).getLsbD 0 = true →
    ∃ t, steps 6 s = .next t ∧ t.seq.phase = .gap ∧ t.seq.curop = .op .await ∧ t.slotE.qtr = 0 ∧ t.env.moves = [] ∧
      t.desc = s.desc ∧ t.opnd = s.opnd ∧ t.orch = s.orch ∧ t.host = s.host ∧ t.inited = s.inited ∧
      t.res = { s.res with statusR := pollStatus s 0 } ∧ t.env = s.env.after 80 ∧
      traced s t (sessionShape gapShape s.host.ie (rdsrFrames s.opnd.devaddr))

/-! ## Paged write -/

/-- The chunk law (44_paged_write.md R221): a chunk is 1 to 16 bytes, no more than remain, and passes the page check of
`start_write`; it stops at a page boundary or is the last. -/
def Obligations.ChunkLaw : Prop :=
  ∀ rem addr : Half, rem ≠ 0 →
    1 ≤ chunkLength rem addr ∧ chunkLength rem addr ≤ 16 ∧ chunkLength rem addr ≤ rem.toNat ∧
    fitsPage addr (chunkLength rem addr) = true ∧
    (chunkLength rem addr = rem.toNat ∨ (addr.toNat + chunkLength rem addr) % 16 = 0) ∧
    ∀ s : State, s.orch.rem = rem → s.orch.curAddr = addr → (takeChunk s).orch.chunk.toNat = chunkLength rem addr

/-- The chunks of a write cover it (R222, R223): their number by the formula, the first at the start, each next one where the one
before it ends, none across a page, their lengths summing to `LENGTH`. -/
def Obligations.ChunksCover : Prop :=
  ∀ offset length : Half, let cs := chunksOf offset length
    (length ≠ 0 → cs.length = (offset.toNat % 16 + length.toNat - 1) / 16 + 1) ∧
    (cs.map Chunk.len).sum = length.toNat ∧
    (∀ c ∈ cs, 1 ≤ c.len ∧ c.addr.toNat % 16 + c.len ≤ 16 ∧ c.ptr + c.len ≤ length.toNat ∧
      c.addr = offset + BitVec.ofNat 16 c.ptr) ∧
    (∀ c, cs.head? = some c → c.ptr = 0) ∧
    ∀ k, ∀ h : k + 1 < cs.length, cs[k + 1].ptr = cs[k].ptr + cs[k].len ∧ cs[k + 1].addr.toNat % 16 = 0

/-- `simple_write` of no bytes (R225): success at once, an empty trace, `STATUS_R`, `IE` and the line untouched. -/
def Obligations.SimpleWriteEmpty : Prop :=
  ∀ (dev : Byte) (offset : Half) (s : State), s.ready →
    exec (.simpleWrite dev offset 0) s = .next { s with
      opnd := { s.opnd with opsel := 8#4, devaddr := dev, offset := offset, length := 0 }
      res := { success := true, statusR := s.res.statusR, busy := false, done := true }
      seq := { s.seq with phase := .idle, ok := true }
      orch := { s.orch with curAddr := offset, curPtr := 0, rem := 0 } }

/-- `simple_write` that succeeds (R220 to R223): for every chunk in turn `enable_write`, `start_write` of its bytes and
`await_write_complete` with its busy polls; in the end nothing remains. That each poll after a busy one begins within the script
(`chunkAnswered`) is the model's condition for running them in one step (log 19). -/
def Obligations.SimpleWriteSucceeds : Prop :=
  ∀ (dev : Byte) (offset length : Half) (cs : List Polled) (s : State), s.ready → length.toNat ≤ s.host.bufSize →
    length ≠ 0 → cs.map Prod.fst = chunksOf offset length → chunksAnswered s 0 cs →
    ∃ t, exec (.simpleWrite dev offset length) s = .next t ∧
      PagedDone dev offset length true (offset + length, length.toNat)
        (cs.flatMap (chunkShape s.host.ie dev s.host.buf)) (framesOf cs) s t ∧
      t.res.statusR = byteAt s (20 * (framesOf cs - 1))

/-- `simple_write` that fails (R220, R224): after chunks that succeeded, the first sub-operation of the next one that fails ends
it: what was done stays done, the failing session stops at its first frame without acknowledgment, nothing follows. That each
poll after a busy one begins within the script is the model's condition for running them in one step (log 19). -/
def Obligations.SimpleWriteFails : Prop :=
  ∀ (dev : Byte) (offset length : Half) (cs : List Polled) (c : Polled) (later : List Chunk) (s : State), s.ready →
    length.toNat ≤ s.host.bufSize → cs.map Prod.fst ++ c.1 :: later = chunksOf offset length → chunksAnswered s 0 cs →
    let base := framesOf cs
    let before := cs.flatMap (chunkShape s.host.ie dev s.host.buf)
    let stop := (c.1.addr, c.1.ptr)
    let write := chunkWriteFrames dev s.host.buf c.1
    let poll := base + 8 + c.1.len + 4 * c.2
    (allAcked s (base + 1) 2 = false →
      ∃ t, exec (.simpleWrite dev offset length) s = .next t ∧
        PagedDone dev offset length false stop
          (before ++ sessionShape standbyShape s.host.ie ((wrenFrames dev).take (framesRun s (base + 1) 2)))
          (base + 1 + framesRun s (base + 1) 2) s t) ∧
    (allAcked s (base + 1) 2 = true → allAcked s (base + 4) (4 + c.1.len) = false →
      ∃ t, exec (.simpleWrite dev offset length) s = .next t ∧
        PagedDone dev offset length false stop
          (before ++ enableShape s.host.ie dev ++
            sessionShape standbyShape s.host.ie (write.take (framesRun s (base + 4) (4 + c.1.len))))
          (base + 4 + framesRun s (base + 4) (4 + c.1.len)) s t) ∧
    (allAcked s (base + 1) 2 = true → allAcked s (base + 4) (4 + c.1.len) = true →
      (∀ j < c.2, allAcked s (base + 8 + c.1.len + 4 * j + 1) 3 = true ∧
        (byteAt s (20 * (base + 8 + c.1.len + 4 * j + 3))).getLsbD 0 = true) →
      c.2 = 0 ∨ 20 * poll < s.env.script.length →
      allAcked s (poll + 1) 3 = false →
      ∃ t, exec (.simpleWrite dev offset length) s = .next t ∧
        PagedDone dev offset length false stop
          (before ++ enableShape s.host.ie dev ++ sessionShape standbyShape s.host.ie write ++ standbyShape ++
            (List.replicate c.2 (pollShape s.host.ie dev)).flatten ++
            sessionShape gapShape s.host.ie ((rdsrFrames dev).take (framesRun s (poll + 1) 3)))
          (poll + 1 + framesRun s (poll + 1) 3) s t)

/-! ## The sequencer and the procedures -/

/-- Agreement (45_sequencer_fsm.md R253): walking the phases from START, a phase or a quarter of a slot at a time, reaches the very
state, trace included, or the very refusal, that the procedure of the operation gives. The refusal is the model's choice of when a
payload past the buffer is refused (log 8). -/
def Obligations.SequencerAgrees : Prop :=
  ∀ (i : Instr) (s : State), i.isRequest = true → s.res.busy = false → s.slotE.qtr = 0 →
    ∃ k, fsmRun k (start (present i) s) = exec i s

/-- Step granularity (R256): from a state of the machine's, a step of the engine is one or more steps of the sequencer. -/
def Obligations.StepIsSequencerRun : Prop :=
  ∀ s : State, s.Inv → nextMove s = .wait → ∃ k, 1 ≤ k ∧ fsmRun k (popMove s) = step s

/-! ## Invariants -/

/-- The state after reset is one of the machine's. -/
def Obligations.ResetInv : Prop := State.reset.Inv

/-- Busy exactly while an operation is under way, done never while busy (10_state.md R41, R42); before `init` no phase of a
device operation (43_device_operations.md R211); `OK` is 1 until a failure (10_state.md R46). -/
def Obligations.HandshakeKept : Prop :=
  ∀ s t : State, s.Inv → step s = .next t → t.handshake ∧ t.initFirst ∧ t.okWhileRunning

/-- The line (42_command_protocol.md R186, 41_byte_framing.md R165, 30_encoding.md R122): once initialised it is driven but in the
released slots, where it is released; the latch holds the slot's levels; between pulses, frames and operations it is high. -/
def Obligations.LineKept : Prop :=
  ∀ s t : State, s.Inv → step s = .next t → t.slotsRest ∧ t.lineDriven ∧ t.slotLevel ∧ t.lineHigh

/-- From `CS_ENTER` to `CS_EXIT` preemption is suppressed (60_exceptions.md R266, R267). -/
def Obligations.ExchangeMasked : Prop := ∀ s t : State, s.Inv → step s = .next t → t.exchangeMasked

/-- While a transaction is under way the descriptor is its operation's row (43_device_operations.md R201), no write crosses a
page and no payload the buffer (20_memory.md R77, R71), and the byte counter lies in its run (44_paged_write.md R229). That the
whole payload lies in the buffer from the start on is the model's choice (log 8: R71 does not say when a model refuses). -/
def Obligations.DescriptorKept : Prop :=
  ∀ s t : State, s.Inv → step s = .next t → t.descriptorLoaded ∧ t.payloadAdmitted ∧ t.countersInRange

/-- The buffer keeps its canonical form and its size's bounds (10_state.md R56). -/
def Obligations.BufferKept : Prop := ∀ s t : State, s.Inv → step s = .next t → t.bufferForm

/-- The chunk loop (44_paged_write.md R221, R229): `CUR_PTR + REM = LENGTH` and the chunk follows the chunk law. That `LENGTH` fits the
buffer is no rule of that file: it rests on the model's refusal before the start (log 8; 20_memory.md R71, 00_scope.md R13). -/
def Obligations.ChunksKept : Prop := ∀ s t : State, s.Inv → step s = .next t → t.chunksInStep

/-- The engine goes on (60_exceptions.md R263): no state of the machine's ends in a fault, and with the host waiting the only step
that can be refused is the dispatch or the pre-check of a request whose bytes do not fit the buffer. -/
def Obligations.EngineGoesOn : Prop :=
  ∀ s : State, s.Inv →
    (∀ r, step s ≠ .fault r) ∧
    (nextMove s = .wait → (∃ t, step s = .next t) ∨
      (s.seq.phase = .dispatch ∧ s.host.bufSize < s.opnd.length.toNat ∧
        step s = .refused (.bufferRange (s.opnd.length.toNat - 1))) ∨
      (s.seq.phase = .precheck ∧ payloadFits s = false ∧ step s = .refused (.bufferRange (s.desc.plen.toNat - 1))))

/-- What no step does (00_scope.md R10, R13; 10_state.md R53, R62; 70_reset_and_hazards.md R290): the trace only grows, the buffer's
size stays, only reset clears `INITED`, only the host's own moves write the operand registers, and answers are taken
in order. -/
def Obligations.StepHistory : Prop :=
  ∀ s t : State, step s = .next t →
    s.trace <:+ t.trace ∧ t.host.bufSize = s.host.bufSize ∧ (∃ n, t.env.samples = s.env.samples + n ∧
      t.env.script = s.env.script.drop n) ∧ t.env.moves = s.env.moves.tail ∧
    (s.inited = true → nextMove s ≠ .rst → t.inited = true) ∧
    (nextMove s = .wait → t.opnd = s.opnd)

/-! ## Durations -/

/-- The least durations of completed operations (70_reset_and_hazards.md R311), in microseconds. -/
def Obligations.Durations : Prop :=
  (∀ w v mak, 40 ≤ leastMicros (slotShape w) ∧ 400 ≤ leastMicros (BusFrame.shape (.sent v mak)) ∧
    400 ≤ leastMicros (BusFrame.shape (.received mak))) ∧
  Config.tSetup + 600 ≤ leastMicros standbyShape ∧ 405 ≤ leastMicros headerShape ∧
  ∀ (dev status : Byte) (offset length : Half) (s t : State), s.ready → t.res.success = true →
    let least := fun n => leastMicros s.trace + Config.tSetup + n ≤ leastMicros t.trace
    (exec (.enableWrite dev) s = .next t ∨ exec (.disableWrite dev) s = .next t → least 1805) ∧
    (exec (.readStatus dev) s = .next t ∨ exec (.writeStatus dev status) s = .next t → least 2205) ∧
    (exec (.read dev offset length) s = .next t ∨ exec (.startWrite dev offset length) s = .next t →
      least (2605 + 400 * length.toNat)) ∧
    (exec (.awaitWriteComplete dev) s = .next t →
      least (600 + 1615 * (exchanges t.trace - exchanges s.trace)))
end

