-- ==== Sys2Proof/Laws/State.lean ====
section
/-! SUPPORT. One lemma per register group per update: what the update writes there, or that it leaves it. -/

namespace Sys2Proof.Machine

variable (s : State)

@[simp] theorem emit_line (m : MicroOp) : (emit m s).line = s.line := rfl
@[simp] theorem emit_slotE (m : MicroOp) : (emit m s).slotE = s.slotE := rfl
@[simp] theorem emit_frame (m : MicroOp) : (emit m s).frame = s.frame := rfl
@[simp] theorem emit_desc (m : MicroOp) : (emit m s).desc = s.desc := rfl
@[simp] theorem emit_opnd (m : MicroOp) : (emit m s).opnd = s.opnd := rfl
@[simp] theorem emit_res (m : MicroOp) : (emit m s).res = s.res := rfl
@[simp] theorem emit_seq (m : MicroOp) : (emit m s).seq = s.seq := rfl
@[simp] theorem emit_orch (m : MicroOp) : (emit m s).orch = s.orch := rfl
@[simp] theorem emit_savedIe (m : MicroOp) : (emit m s).savedIe = s.savedIe := rfl
@[simp] theorem emit_inited (m : MicroOp) : (emit m s).inited = s.inited := rfl
@[simp] theorem emit_host (m : MicroOp) : (emit m s).host = s.host := rfl
@[simp] theorem emit_env (m : MicroOp) : (emit m s).env = s.env := rfl
@[simp] theorem emit_trace (m : MicroOp) : (emit m s).trace = m :: s.trace := rfl

@[simp] theorem dirOp_line (d : Direction) : (dirOp d s).line = { s.line with dir := d } := rfl
@[simp] theorem dirOp_slotE (d : Direction) : (dirOp d s).slotE = s.slotE := rfl
@[simp] theorem dirOp_frame (d : Direction) : (dirOp d s).frame = s.frame := rfl
@[simp] theorem dirOp_desc (d : Direction) : (dirOp d s).desc = s.desc := rfl
@[simp] theorem dirOp_opnd (d : Direction) : (dirOp d s).opnd = s.opnd := rfl
@[simp] theorem dirOp_res (d : Direction) : (dirOp d s).res = s.res := rfl
@[simp] theorem dirOp_seq (d : Direction) : (dirOp d s).seq = s.seq := rfl
@[simp] theorem dirOp_orch (d : Direction) : (dirOp d s).orch = s.orch := rfl
@[simp] theorem dirOp_savedIe (d : Direction) : (dirOp d s).savedIe = s.savedIe := rfl
@[simp] theorem dirOp_inited (d : Direction) : (dirOp d s).inited = s.inited := rfl
@[simp] theorem dirOp_host (d : Direction) : (dirOp d s).host = s.host := rfl
@[simp] theorem dirOp_env (d : Direction) : (dirOp d s).env = s.env := rfl
@[simp] theorem dirOp_trace (d : Direction) : (dirOp d s).trace = .dir d :: s.trace := rfl

@[simp] theorem lvlOp_line (v : Bool) : (lvlOp v s).line = { s.line with lvl := v } := rfl
@[simp] theorem lvlOp_slotE (v : Bool) : (lvlOp v s).slotE = s.slotE := rfl
@[simp] theorem lvlOp_frame (v : Bool) : (lvlOp v s).frame = s.frame := rfl
@[simp] theorem lvlOp_desc (v : Bool) : (lvlOp v s).desc = s.desc := rfl
@[simp] theorem lvlOp_opnd (v : Bool) : (lvlOp v s).opnd = s.opnd := rfl
@[simp] theorem lvlOp_res (v : Bool) : (lvlOp v s).res = s.res := rfl
@[simp] theorem lvlOp_seq (v : Bool) : (lvlOp v s).seq = s.seq := rfl
@[simp] theorem lvlOp_orch (v : Bool) : (lvlOp v s).orch = s.orch := rfl
@[simp] theorem lvlOp_savedIe (v : Bool) : (lvlOp v s).savedIe = s.savedIe := rfl
@[simp] theorem lvlOp_inited (v : Bool) : (lvlOp v s).inited = s.inited := rfl
@[simp] theorem lvlOp_host (v : Bool) : (lvlOp v s).host = s.host := rfl
@[simp] theorem lvlOp_env (v : Bool) : (lvlOp v s).env = s.env := rfl
@[simp] theorem lvlOp_trace (v : Bool) : (lvlOp v s).trace = .lvl v :: s.trace := rfl

@[simp] theorem dly_line (i : Config.Interval) : (dly i s).line = s.line := rfl
@[simp] theorem dly_slotE (i : Config.Interval) : (dly i s).slotE = { s.slotE with tmr := 0 } := rfl
@[simp] theorem dly_frame (i : Config.Interval) : (dly i s).frame = s.frame := rfl
@[simp] theorem dly_desc (i : Config.Interval) : (dly i s).desc = s.desc := rfl
@[simp] theorem dly_opnd (i : Config.Interval) : (dly i s).opnd = s.opnd := rfl
@[simp] theorem dly_res (i : Config.Interval) : (dly i s).res = s.res := rfl
@[simp] theorem dly_seq (i : Config.Interval) : (dly i s).seq = s.seq := rfl
@[simp] theorem dly_orch (i : Config.Interval) : (dly i s).orch = s.orch := rfl
@[simp] theorem dly_savedIe (i : Config.Interval) : (dly i s).savedIe = s.savedIe := rfl
@[simp] theorem dly_inited (i : Config.Interval) : (dly i s).inited = s.inited := rfl
@[simp] theorem dly_host (i : Config.Interval) : (dly i s).host = s.host := rfl
@[simp] theorem dly_env (i : Config.Interval) : (dly i s).env = s.env := rfl
@[simp] theorem dly_trace (i : Config.Interval) : (dly i s).trace = .dly i :: s.trace := rfl

@[simp] theorem nextSample_line : (nextSample s).line = s.line := rfl
@[simp] theorem nextSample_slotE : (nextSample s).slotE = s.slotE := rfl
@[simp] theorem nextSample_frame : (nextSample s).frame = s.frame := rfl
@[simp] theorem nextSample_desc : (nextSample s).desc = s.desc := rfl
@[simp] theorem nextSample_opnd : (nextSample s).opnd = s.opnd := rfl
@[simp] theorem nextSample_res : (nextSample s).res = s.res := rfl
@[simp] theorem nextSample_seq : (nextSample s).seq = s.seq := rfl
@[simp] theorem nextSample_orch : (nextSample s).orch = s.orch := rfl
@[simp] theorem nextSample_savedIe : (nextSample s).savedIe = s.savedIe := rfl
@[simp] theorem nextSample_inited : (nextSample s).inited = s.inited := rfl
@[simp] theorem nextSample_host : (nextSample s).host = s.host := rfl
@[simp] theorem nextSample_trace : (nextSample s).trace = s.trace := rfl

@[simp] theorem sampleA_line : (sampleA s).line = s.line := rfl
@[simp] theorem sampleA_slotE : (sampleA s).slotE = { s.slotE with sa := wireLevel s } := rfl
@[simp] theorem sampleA_frame : (sampleA s).frame = s.frame := rfl
@[simp] theorem sampleA_desc : (sampleA s).desc = s.desc := rfl
@[simp] theorem sampleA_opnd : (sampleA s).opnd = s.opnd := rfl
@[simp] theorem sampleA_res : (sampleA s).res = s.res := rfl
@[simp] theorem sampleA_seq : (sampleA s).seq = s.seq := rfl
@[simp] theorem sampleA_orch : (sampleA s).orch = s.orch := rfl
@[simp] theorem sampleA_savedIe : (sampleA s).savedIe = s.savedIe := rfl
@[simp] theorem sampleA_inited : (sampleA s).inited = s.inited := rfl
@[simp] theorem sampleA_host : (sampleA s).host = s.host := rfl
@[simp] theorem sampleA_trace : (sampleA s).trace = .smp (wireLevel s) :: s.trace := rfl

@[simp] theorem sampleB_line : (sampleB s).line = s.line := rfl
@[simp] theorem sampleB_slotE : (sampleB s).slotE = { s.slotE with sb := wireLevel s } := rfl
@[simp] theorem sampleB_frame : (sampleB s).frame = s.frame := rfl
@[simp] theorem sampleB_desc : (sampleB s).desc = s.desc := rfl
@[simp] theorem sampleB_opnd : (sampleB s).opnd = s.opnd := rfl
@[simp] theorem sampleB_res : (sampleB s).res = s.res := rfl
@[simp] theorem sampleB_seq : (sampleB s).seq = s.seq := rfl
@[simp] theorem sampleB_orch : (sampleB s).orch = s.orch := rfl
@[simp] theorem sampleB_savedIe : (sampleB s).savedIe = s.savedIe := rfl
@[simp] theorem sampleB_inited : (sampleB s).inited = s.inited := rfl
@[simp] theorem sampleB_host : (sampleB s).host = s.host := rfl
@[simp] theorem sampleB_trace : (sampleB s).trace = .smp (wireLevel s) :: s.trace := rfl

@[simp] theorem csEnter_line : (csEnter s).line = s.line := rfl
@[simp] theorem csEnter_slotE : (csEnter s).slotE = s.slotE := rfl
@[simp] theorem csEnter_frame : (csEnter s).frame = s.frame := rfl
@[simp] theorem csEnter_desc : (csEnter s).desc = s.desc := rfl
@[simp] theorem csEnter_opnd : (csEnter s).opnd = s.opnd := rfl
@[simp] theorem csEnter_res : (csEnter s).res = s.res := rfl
@[simp] theorem csEnter_seq : (csEnter s).seq = s.seq := rfl
@[simp] theorem csEnter_orch : (csEnter s).orch = s.orch := rfl
@[simp] theorem csEnter_savedIe : (csEnter s).savedIe = s.host.ie := rfl
@[simp] theorem csEnter_inited : (csEnter s).inited = s.inited := rfl
@[simp] theorem csEnter_host : (csEnter s).host = { s.host with ie := false } := rfl
@[simp] theorem csEnter_env : (csEnter s).env = s.env := rfl
@[simp] theorem csEnter_trace : (csEnter s).trace = .csEnter :: s.trace := rfl

@[simp] theorem csExit_line : (csExit s).line = s.line := rfl
@[simp] theorem csExit_slotE : (csExit s).slotE = s.slotE := rfl
@[simp] theorem csExit_frame : (csExit s).frame = s.frame := rfl
@[simp] theorem csExit_desc : (csExit s).desc = s.desc := rfl
@[simp] theorem csExit_opnd : (csExit s).opnd = s.opnd := rfl
@[simp] theorem csExit_res : (csExit s).res = s.res := rfl
@[simp] theorem csExit_seq : (csExit s).seq = s.seq := rfl
@[simp] theorem csExit_orch : (csExit s).orch = s.orch := rfl
@[simp] theorem csExit_savedIe : (csExit s).savedIe = s.savedIe := rfl
@[simp] theorem csExit_inited : (csExit s).inited = s.inited := rfl
@[simp] theorem csExit_host : (csExit s).host = { s.host with ie := s.savedIe } := rfl
@[simp] theorem csExit_env : (csExit s).env = s.env := rfl
@[simp] theorem csExit_trace : (csExit s).trace = .csExit s.savedIe :: s.trace := rfl

@[simp] theorem setQtr_line (q : Fin 4) : (setQtr q s).line = s.line := rfl
@[simp] theorem setQtr_slotE (q : Fin 4) : (setQtr q s).slotE = { s.slotE with qtr := q } := rfl
@[simp] theorem setQtr_frame (q : Fin 4) : (setQtr q s).frame = s.frame := rfl
@[simp] theorem setQtr_desc (q : Fin 4) : (setQtr q s).desc = s.desc := rfl
@[simp] theorem setQtr_opnd (q : Fin 4) : (setQtr q s).opnd = s.opnd := rfl
@[simp] theorem setQtr_res (q : Fin 4) : (setQtr q s).res = s.res := rfl
@[simp] theorem setQtr_seq (q : Fin 4) : (setQtr q s).seq = s.seq := rfl
@[simp] theorem setQtr_orch (q : Fin 4) : (setQtr q s).orch = s.orch := rfl
@[simp] theorem setQtr_savedIe (q : Fin 4) : (setQtr q s).savedIe = s.savedIe := rfl
@[simp] theorem setQtr_inited (q : Fin 4) : (setQtr q s).inited = s.inited := rfl
@[simp] theorem setQtr_host (q : Fin 4) : (setQtr q s).host = s.host := rfl
@[simp] theorem setQtr_env (q : Fin 4) : (setQtr q s).env = s.env := rfl
@[simp] theorem setQtr_trace (q : Fin 4) : (setQtr q s).trace = s.trace := rfl

@[simp] theorem setSlot_line (k : Fin 10) : (setSlot k s).line = s.line := rfl
@[simp] theorem setSlot_slotE (k : Fin 10) : (setSlot k s).slotE = s.slotE := rfl
@[simp] theorem setSlot_frame (k : Fin 10) : (setSlot k s).frame = { s.frame with slot := k } := rfl
@[simp] theorem setSlot_desc (k : Fin 10) : (setSlot k s).desc = s.desc := rfl
@[simp] theorem setSlot_opnd (k : Fin 10) : (setSlot k s).opnd = s.opnd := rfl
@[simp] theorem setSlot_res (k : Fin 10) : (setSlot k s).res = s.res := rfl
@[simp] theorem setSlot_seq (k : Fin 10) : (setSlot k s).seq = s.seq := rfl
@[simp] theorem setSlot_orch (k : Fin 10) : (setSlot k s).orch = s.orch := rfl
@[simp] theorem setSlot_savedIe (k : Fin 10) : (setSlot k s).savedIe = s.savedIe := rfl
@[simp] theorem setSlot_inited (k : Fin 10) : (setSlot k s).inited = s.inited := rfl
@[simp] theorem setSlot_host (k : Fin 10) : (setSlot k s).host = s.host := rfl
@[simp] theorem setSlot_env (k : Fin 10) : (setSlot k s).env = s.env := rfl
@[simp] theorem setSlot_trace (k : Fin 10) : (setSlot k s).trace = s.trace := rfl

@[simp] theorem setShr_line (b : Byte) : (setShr b s).line = s.line := rfl
@[simp] theorem setShr_slotE (b : Byte) : (setShr b s).slotE = s.slotE := rfl
@[simp] theorem setShr_frame (b : Byte) : (setShr b s).frame = { s.frame with shr := b } := rfl
@[simp] theorem setShr_desc (b : Byte) : (setShr b s).desc = s.desc := rfl
@[simp] theorem setShr_opnd (b : Byte) : (setShr b s).opnd = s.opnd := rfl
@[simp] theorem setShr_res (b : Byte) : (setShr b s).res = s.res := rfl
@[simp] theorem setShr_seq (b : Byte) : (setShr b s).seq = s.seq := rfl
@[simp] theorem setShr_orch (b : Byte) : (setShr b s).orch = s.orch := rfl
@[simp] theorem setShr_savedIe (b : Byte) : (setShr b s).savedIe = s.savedIe := rfl
@[simp] theorem setShr_inited (b : Byte) : (setShr b s).inited = s.inited := rfl
@[simp] theorem setShr_host (b : Byte) : (setShr b s).host = s.host := rfl
@[simp] theorem setShr_env (b : Byte) : (setShr b s).env = s.env := rfl
@[simp] theorem setShr_trace (b : Byte) : (setShr b s).trace = s.trace := rfl

@[simp] theorem setMakb_line (m : Bool) : (setMakb m s).line = s.line := rfl
@[simp] theorem setMakb_slotE (m : Bool) : (setMakb m s).slotE = s.slotE := rfl
@[simp] theorem setMakb_frame (m : Bool) : (setMakb m s).frame = { s.frame with makb := m } := rfl
@[simp] theorem setMakb_desc (m : Bool) : (setMakb m s).desc = s.desc := rfl
@[simp] theorem setMakb_opnd (m : Bool) : (setMakb m s).opnd = s.opnd := rfl
@[simp] theorem setMakb_res (m : Bool) : (setMakb m s).res = s.res := rfl
@[simp] theorem setMakb_seq (m : Bool) : (setMakb m s).seq = s.seq := rfl
@[simp] theorem setMakb_orch (m : Bool) : (setMakb m s).orch = s.orch := rfl
@[simp] theorem setMakb_savedIe (m : Bool) : (setMakb m s).savedIe = s.savedIe := rfl
@[simp] theorem setMakb_inited (m : Bool) : (setMakb m s).inited = s.inited := rfl
@[simp] theorem setMakb_host (m : Bool) : (setMakb m s).host = s.host := rfl
@[simp] theorem setMakb_env (m : Bool) : (setMakb m s).env = s.env := rfl
@[simp] theorem setMakb_trace (m : Bool) : (setMakb m s).trace = s.trace := rfl

@[simp] theorem setAck_line (a : Bool) : (setAck a s).line = s.line := rfl
@[simp] theorem setAck_slotE (a : Bool) : (setAck a s).slotE = s.slotE := rfl
@[simp] theorem setAck_frame (a : Bool) : (setAck a s).frame = { s.frame with ack := a } := rfl
@[simp] theorem setAck_desc (a : Bool) : (setAck a s).desc = s.desc := rfl
@[simp] theorem setAck_opnd (a : Bool) : (setAck a s).opnd = s.opnd := rfl
@[simp] theorem setAck_res (a : Bool) : (setAck a s).res = s.res := rfl
@[simp] theorem setAck_seq (a : Bool) : (setAck a s).seq = s.seq := rfl
@[simp] theorem setAck_orch (a : Bool) : (setAck a s).orch = s.orch := rfl
@[simp] theorem setAck_savedIe (a : Bool) : (setAck a s).savedIe = s.savedIe := rfl
@[simp] theorem setAck_inited (a : Bool) : (setAck a s).inited = s.inited := rfl
@[simp] theorem setAck_host (a : Bool) : (setAck a s).host = s.host := rfl
@[simp] theorem setAck_env (a : Bool) : (setAck a s).env = s.env := rfl
@[simp] theorem setAck_trace (a : Bool) : (setAck a s).trace = s.trace := rfl

@[simp] theorem shiftIn_line (b : Bool) : (shiftIn b s).line = s.line := rfl
@[simp] theorem shiftIn_slotE (b : Bool) : (shiftIn b s).slotE = s.slotE := rfl
@[simp] theorem shiftIn_frame (b : Bool) : (shiftIn b s).frame = { s.frame with shr := s.frame.shr.extractLsb' 0 7 ++ BitVec.ofBool b } := rfl
@[simp] theorem shiftIn_desc (b : Bool) : (shiftIn b s).desc = s.desc := rfl
@[simp] theorem shiftIn_opnd (b : Bool) : (shiftIn b s).opnd = s.opnd := rfl
@[simp] theorem shiftIn_res (b : Bool) : (shiftIn b s).res = s.res := rfl
@[simp] theorem shiftIn_seq (b : Bool) : (shiftIn b s).seq = s.seq := rfl
@[simp] theorem shiftIn_orch (b : Bool) : (shiftIn b s).orch = s.orch := rfl
@[simp] theorem shiftIn_savedIe (b : Bool) : (shiftIn b s).savedIe = s.savedIe := rfl
@[simp] theorem shiftIn_inited (b : Bool) : (shiftIn b s).inited = s.inited := rfl
@[simp] theorem shiftIn_host (b : Bool) : (shiftIn b s).host = s.host := rfl
@[simp] theorem shiftIn_env (b : Bool) : (shiftIn b s).env = s.env := rfl
@[simp] theorem shiftIn_trace (b : Bool) : (shiftIn b s).trace = s.trace := rfl

@[simp] theorem setByteidx_line (n : Nat) : (setByteidx n s).line = s.line := rfl
@[simp] theorem setByteidx_slotE (n : Nat) : (setByteidx n s).slotE = s.slotE := rfl
@[simp] theorem setByteidx_frame (n : Nat) : (setByteidx n s).frame = s.frame := rfl
@[simp] theorem setByteidx_desc (n : Nat) : (setByteidx n s).desc = s.desc := rfl
@[simp] theorem setByteidx_opnd (n : Nat) : (setByteidx n s).opnd = s.opnd := rfl
@[simp] theorem setByteidx_res (n : Nat) : (setByteidx n s).res = s.res := rfl
@[simp] theorem setByteidx_seq (n : Nat) : (setByteidx n s).seq = { s.seq with byteidx := BitVec.ofNat 16 n } := rfl
@[simp] theorem setByteidx_orch (n : Nat) : (setByteidx n s).orch = s.orch := rfl
@[simp] theorem setByteidx_savedIe (n : Nat) : (setByteidx n s).savedIe = s.savedIe := rfl
@[simp] theorem setByteidx_inited (n : Nat) : (setByteidx n s).inited = s.inited := rfl
@[simp] theorem setByteidx_host (n : Nat) : (setByteidx n s).host = s.host := rfl
@[simp] theorem setByteidx_env (n : Nat) : (setByteidx n s).env = s.env := rfl
@[simp] theorem setByteidx_trace (n : Nat) : (setByteidx n s).trace = s.trace := rfl

@[simp] theorem setOk_line (b : Bool) : (setOk b s).line = s.line := rfl
@[simp] theorem setOk_slotE (b : Bool) : (setOk b s).slotE = s.slotE := rfl
@[simp] theorem setOk_frame (b : Bool) : (setOk b s).frame = s.frame := rfl
@[simp] theorem setOk_desc (b : Bool) : (setOk b s).desc = s.desc := rfl
@[simp] theorem setOk_opnd (b : Bool) : (setOk b s).opnd = s.opnd := rfl
@[simp] theorem setOk_res (b : Bool) : (setOk b s).res = s.res := rfl
@[simp] theorem setOk_seq (b : Bool) : (setOk b s).seq = { s.seq with ok := b } := rfl
@[simp] theorem setOk_orch (b : Bool) : (setOk b s).orch = s.orch := rfl
@[simp] theorem setOk_savedIe (b : Bool) : (setOk b s).savedIe = s.savedIe := rfl
@[simp] theorem setOk_inited (b : Bool) : (setOk b s).inited = s.inited := rfl
@[simp] theorem setOk_host (b : Bool) : (setOk b s).host = s.host := rfl
@[simp] theorem setOk_env (b : Bool) : (setOk b s).env = s.env := rfl
@[simp] theorem setOk_trace (b : Bool) : (setOk b s).trace = s.trace := rfl

@[simp] theorem setPhase_line (p : Phase) : (setPhase p s).line = s.line := rfl
@[simp] theorem setPhase_slotE (p : Phase) : (setPhase p s).slotE = s.slotE := rfl
@[simp] theorem setPhase_frame (p : Phase) : (setPhase p s).frame = s.frame := rfl
@[simp] theorem setPhase_desc (p : Phase) : (setPhase p s).desc = s.desc := rfl
@[simp] theorem setPhase_opnd (p : Phase) : (setPhase p s).opnd = s.opnd := rfl
@[simp] theorem setPhase_res (p : Phase) : (setPhase p s).res = s.res := rfl
@[simp] theorem setPhase_seq (p : Phase) : (setPhase p s).seq = { s.seq with phase := p } := rfl
@[simp] theorem setPhase_orch (p : Phase) : (setPhase p s).orch = s.orch := rfl
@[simp] theorem setPhase_savedIe (p : Phase) : (setPhase p s).savedIe = s.savedIe := rfl
@[simp] theorem setPhase_inited (p : Phase) : (setPhase p s).inited = s.inited := rfl
@[simp] theorem setPhase_host (p : Phase) : (setPhase p s).host = s.host := rfl
@[simp] theorem setPhase_env (p : Phase) : (setPhase p s).env = s.env := rfl
@[simp] theorem setPhase_trace (p : Phase) : (setPhase p s).trace = s.trace := rfl

@[simp] theorem setCurop_line (op : DevOp) : (setCurop op s).line = s.line := rfl
@[simp] theorem setCurop_slotE (op : DevOp) : (setCurop op s).slotE = s.slotE := rfl
@[simp] theorem setCurop_frame (op : DevOp) : (setCurop op s).frame = s.frame := rfl
@[simp] theorem setCurop_desc (op : DevOp) : (setCurop op s).desc = s.desc := rfl
@[simp] theorem setCurop_opnd (op : DevOp) : (setCurop op s).opnd = s.opnd := rfl
@[simp] theorem setCurop_res (op : DevOp) : (setCurop op s).res = s.res := rfl
@[simp] theorem setCurop_seq (op : DevOp) : (setCurop op s).seq = { s.seq with curop := .op op } := rfl
@[simp] theorem setCurop_orch (op : DevOp) : (setCurop op s).orch = s.orch := rfl
@[simp] theorem setCurop_savedIe (op : DevOp) : (setCurop op s).savedIe = s.savedIe := rfl
@[simp] theorem setCurop_inited (op : DevOp) : (setCurop op s).inited = s.inited := rfl
@[simp] theorem setCurop_host (op : DevOp) : (setCurop op s).host = s.host := rfl
@[simp] theorem setCurop_env (op : DevOp) : (setCurop op s).env = s.env := rfl
@[simp] theorem setCurop_trace (op : DevOp) : (setCurop op s).trace = s.trace := rfl

@[simp] theorem setDesc_line (d : DescRegs) : (setDesc d s).line = s.line := rfl
@[simp] theorem setDesc_slotE (d : DescRegs) : (setDesc d s).slotE = s.slotE := rfl
@[simp] theorem setDesc_frame (d : DescRegs) : (setDesc d s).frame = s.frame := rfl
@[simp] theorem setDesc_desc (d : DescRegs) : (setDesc d s).desc = d := rfl
@[simp] theorem setDesc_opnd (d : DescRegs) : (setDesc d s).opnd = s.opnd := rfl
@[simp] theorem setDesc_res (d : DescRegs) : (setDesc d s).res = s.res := rfl
@[simp] theorem setDesc_seq (d : DescRegs) : (setDesc d s).seq = s.seq := rfl
@[simp] theorem setDesc_orch (d : DescRegs) : (setDesc d s).orch = s.orch := rfl
@[simp] theorem setDesc_savedIe (d : DescRegs) : (setDesc d s).savedIe = s.savedIe := rfl
@[simp] theorem setDesc_inited (d : DescRegs) : (setDesc d s).inited = s.inited := rfl
@[simp] theorem setDesc_host (d : DescRegs) : (setDesc d s).host = s.host := rfl
@[simp] theorem setDesc_env (d : DescRegs) : (setDesc d s).env = s.env := rfl
@[simp] theorem setDesc_trace (d : DescRegs) : (setDesc d s).trace = s.trace := rfl

@[simp] theorem setOrch_line (o : OrchRegs) : (setOrch o s).line = s.line := rfl
@[simp] theorem setOrch_slotE (o : OrchRegs) : (setOrch o s).slotE = s.slotE := rfl
@[simp] theorem setOrch_frame (o : OrchRegs) : (setOrch o s).frame = s.frame := rfl
@[simp] theorem setOrch_desc (o : OrchRegs) : (setOrch o s).desc = s.desc := rfl
@[simp] theorem setOrch_opnd (o : OrchRegs) : (setOrch o s).opnd = s.opnd := rfl
@[simp] theorem setOrch_res (o : OrchRegs) : (setOrch o s).res = s.res := rfl
@[simp] theorem setOrch_seq (o : OrchRegs) : (setOrch o s).seq = s.seq := rfl
@[simp] theorem setOrch_orch (o : OrchRegs) : (setOrch o s).orch = o := rfl
@[simp] theorem setOrch_savedIe (o : OrchRegs) : (setOrch o s).savedIe = s.savedIe := rfl
@[simp] theorem setOrch_inited (o : OrchRegs) : (setOrch o s).inited = s.inited := rfl
@[simp] theorem setOrch_host (o : OrchRegs) : (setOrch o s).host = s.host := rfl
@[simp] theorem setOrch_env (o : OrchRegs) : (setOrch o s).env = s.env := rfl
@[simp] theorem setOrch_trace (o : OrchRegs) : (setOrch o s).trace = s.trace := rfl

@[simp] theorem setStatusR_line (b : Byte) : (setStatusR b s).line = s.line := rfl
@[simp] theorem setStatusR_slotE (b : Byte) : (setStatusR b s).slotE = s.slotE := rfl
@[simp] theorem setStatusR_frame (b : Byte) : (setStatusR b s).frame = s.frame := rfl
@[simp] theorem setStatusR_desc (b : Byte) : (setStatusR b s).desc = s.desc := rfl
@[simp] theorem setStatusR_opnd (b : Byte) : (setStatusR b s).opnd = s.opnd := rfl
@[simp] theorem setStatusR_res (b : Byte) : (setStatusR b s).res = { s.res with statusR := b } := rfl
@[simp] theorem setStatusR_seq (b : Byte) : (setStatusR b s).seq = s.seq := rfl
@[simp] theorem setStatusR_orch (b : Byte) : (setStatusR b s).orch = s.orch := rfl
@[simp] theorem setStatusR_savedIe (b : Byte) : (setStatusR b s).savedIe = s.savedIe := rfl
@[simp] theorem setStatusR_inited (b : Byte) : (setStatusR b s).inited = s.inited := rfl
@[simp] theorem setStatusR_host (b : Byte) : (setStatusR b s).host = s.host := rfl
@[simp] theorem setStatusR_env (b : Byte) : (setStatusR b s).env = s.env := rfl
@[simp] theorem setStatusR_trace (b : Byte) : (setStatusR b s).trace = s.trace := rfl

@[simp] theorem setInited_line : (setInited s).line = s.line := rfl
@[simp] theorem setInited_slotE : (setInited s).slotE = s.slotE := rfl
@[simp] theorem setInited_frame : (setInited s).frame = s.frame := rfl
@[simp] theorem setInited_desc : (setInited s).desc = s.desc := rfl
@[simp] theorem setInited_opnd : (setInited s).opnd = s.opnd := rfl
@[simp] theorem setInited_res : (setInited s).res = s.res := rfl
@[simp] theorem setInited_seq : (setInited s).seq = s.seq := rfl
@[simp] theorem setInited_orch : (setInited s).orch = s.orch := rfl
@[simp] theorem setInited_savedIe : (setInited s).savedIe = s.savedIe := rfl
@[simp] theorem setInited_inited : (setInited s).inited = true := rfl
@[simp] theorem setInited_host : (setInited s).host = s.host := rfl
@[simp] theorem setInited_env : (setInited s).env = s.env := rfl
@[simp] theorem setInited_trace : (setInited s).trace = s.trace := rfl

@[simp] theorem setOperands_line (o : OperandRegs) : (setOperands o s).line = s.line := rfl
@[simp] theorem setOperands_slotE (o : OperandRegs) : (setOperands o s).slotE = s.slotE := rfl
@[simp] theorem setOperands_frame (o : OperandRegs) : (setOperands o s).frame = s.frame := rfl
@[simp] theorem setOperands_desc (o : OperandRegs) : (setOperands o s).desc = s.desc := rfl
@[simp] theorem setOperands_opnd (o : OperandRegs) : (setOperands o s).opnd = o := rfl
@[simp] theorem setOperands_res (o : OperandRegs) : (setOperands o s).res = s.res := rfl
@[simp] theorem setOperands_seq (o : OperandRegs) : (setOperands o s).seq = s.seq := rfl
@[simp] theorem setOperands_orch (o : OperandRegs) : (setOperands o s).orch = s.orch := rfl
@[simp] theorem setOperands_savedIe (o : OperandRegs) : (setOperands o s).savedIe = s.savedIe := rfl
@[simp] theorem setOperands_inited (o : OperandRegs) : (setOperands o s).inited = s.inited := rfl
@[simp] theorem setOperands_host (o : OperandRegs) : (setOperands o s).host = s.host := rfl
@[simp] theorem setOperands_env (o : OperandRegs) : (setOperands o s).env = s.env := rfl
@[simp] theorem setOperands_trace (o : OperandRegs) : (setOperands o s).trace = s.trace := rfl

@[simp] theorem bufWrite_line (i : Nat) (v : Byte) : (bufWrite i v s).line = s.line := rfl
@[simp] theorem bufWrite_slotE (i : Nat) (v : Byte) : (bufWrite i v s).slotE = s.slotE := rfl
@[simp] theorem bufWrite_frame (i : Nat) (v : Byte) : (bufWrite i v s).frame = s.frame := rfl
@[simp] theorem bufWrite_desc (i : Nat) (v : Byte) : (bufWrite i v s).desc = s.desc := rfl
@[simp] theorem bufWrite_opnd (i : Nat) (v : Byte) : (bufWrite i v s).opnd = s.opnd := rfl
@[simp] theorem bufWrite_res (i : Nat) (v : Byte) : (bufWrite i v s).res = s.res := rfl
@[simp] theorem bufWrite_seq (i : Nat) (v : Byte) : (bufWrite i v s).seq = s.seq := rfl
@[simp] theorem bufWrite_orch (i : Nat) (v : Byte) : (bufWrite i v s).orch = s.orch := rfl
@[simp] theorem bufWrite_savedIe (i : Nat) (v : Byte) : (bufWrite i v s).savedIe = s.savedIe := rfl
@[simp] theorem bufWrite_inited (i : Nat) (v : Byte) : (bufWrite i v s).inited = s.inited := rfl
@[simp] theorem bufWrite_host (i : Nat) (v : Byte) : (bufWrite i v s).host = { s.host with buf := memWrite s.host.buf i v } := rfl
@[simp] theorem bufWrite_env (i : Nat) (v : Byte) : (bufWrite i v s).env = s.env := rfl
@[simp] theorem bufWrite_trace (i : Nat) (v : Byte) : (bufWrite i v s).trace = s.trace := rfl

@[simp] theorem raise_line (f : Failure) : (raise f s).line = s.line := rfl
@[simp] theorem raise_slotE (f : Failure) : (raise f s).slotE = s.slotE := rfl
@[simp] theorem raise_frame (f : Failure) : (raise f s).frame = s.frame := rfl
@[simp] theorem raise_desc (f : Failure) : (raise f s).desc = s.desc := rfl
@[simp] theorem raise_opnd (f : Failure) : (raise f s).opnd = s.opnd := rfl
@[simp] theorem raise_res (f : Failure) : (raise f s).res = s.res := rfl
@[simp] theorem raise_seq (f : Failure) : (raise f s).seq = { s.seq with ok := false } := rfl
@[simp] theorem raise_orch (f : Failure) : (raise f s).orch = s.orch := rfl
@[simp] theorem raise_savedIe (f : Failure) : (raise f s).savedIe = s.savedIe := rfl
@[simp] theorem raise_inited (f : Failure) : (raise f s).inited = s.inited := rfl
@[simp] theorem raise_host (f : Failure) : (raise f s).host = s.host := rfl
@[simp] theorem raise_env (f : Failure) : (raise f s).env = s.env := rfl
@[simp] theorem raise_trace (f : Failure) : (raise f s).trace = s.trace := rfl

@[simp] theorem complete_line : (complete s).line = s.line := rfl
@[simp] theorem complete_slotE : (complete s).slotE = s.slotE := rfl
@[simp] theorem complete_frame : (complete s).frame = s.frame := rfl
@[simp] theorem complete_desc : (complete s).desc = s.desc := rfl
@[simp] theorem complete_opnd : (complete s).opnd = s.opnd := rfl
@[simp] theorem complete_res : (complete s).res = { s.res with success := s.seq.ok, done := true, busy := false } := rfl
@[simp] theorem complete_seq : (complete s).seq = { s.seq with phase := .idle } := rfl
@[simp] theorem complete_orch : (complete s).orch = s.orch := rfl
@[simp] theorem complete_savedIe : (complete s).savedIe = s.savedIe := rfl
@[simp] theorem complete_inited : (complete s).inited = s.inited := rfl
@[simp] theorem complete_host : (complete s).host = s.host := rfl
@[simp] theorem complete_env : (complete s).env = s.env := rfl
@[simp] theorem complete_trace : (complete s).trace = s.trace := rfl

@[simp] theorem start_line (load : OperandRegs → OperandRegs) : (start load s).line = s.line := rfl
@[simp] theorem start_slotE (load : OperandRegs → OperandRegs) : (start load s).slotE = s.slotE := rfl
@[simp] theorem start_frame (load : OperandRegs → OperandRegs) : (start load s).frame = s.frame := rfl
@[simp] theorem start_desc (load : OperandRegs → OperandRegs) : (start load s).desc = s.desc := rfl
@[simp] theorem start_opnd (load : OperandRegs → OperandRegs) : (start load s).opnd = load s.opnd := rfl
@[simp] theorem start_res (load : OperandRegs → OperandRegs) : (start load s).res = { s.res with busy := true, done := false } := rfl
@[simp] theorem start_seq (load : OperandRegs → OperandRegs) : (start load s).seq = { s.seq with phase := .dispatch, ok := true } := rfl
@[simp] theorem start_orch (load : OperandRegs → OperandRegs) : (start load s).orch = s.orch := rfl
@[simp] theorem start_savedIe (load : OperandRegs → OperandRegs) : (start load s).savedIe = s.savedIe := rfl
@[simp] theorem start_inited (load : OperandRegs → OperandRegs) : (start load s).inited = s.inited := rfl
@[simp] theorem start_host (load : OperandRegs → OperandRegs) : (start load s).host = s.host := rfl
@[simp] theorem start_env (load : OperandRegs → OperandRegs) : (start load s).env = s.env := rfl
@[simp] theorem start_trace (load : OperandRegs → OperandRegs) : (start load s).trace = s.trace := rfl

@[simp] theorem enter_line (op : DevOp) : (enter op s).line = s.line := rfl
@[simp] theorem enter_slotE (op : DevOp) : (enter op s).slotE = s.slotE := rfl
@[simp] theorem enter_frame (op : DevOp) : (enter op s).frame = s.frame := rfl
@[simp] theorem enter_desc (op : DevOp) : (enter op s).desc = { descRow op s with lead := leadOf op } := rfl
@[simp] theorem enter_opnd (op : DevOp) : (enter op s).opnd = s.opnd := rfl
@[simp] theorem enter_res (op : DevOp) : (enter op s).res = s.res := rfl
@[simp] theorem enter_seq (op : DevOp) : (enter op s).seq = { s.seq with curop := .op op } := rfl
@[simp] theorem enter_orch (op : DevOp) : (enter op s).orch = s.orch := rfl
@[simp] theorem enter_savedIe (op : DevOp) : (enter op s).savedIe = s.savedIe := rfl
@[simp] theorem enter_inited (op : DevOp) : (enter op s).inited = s.inited := rfl
@[simp] theorem enter_host (op : DevOp) : (enter op s).host = s.host := rfl
@[simp] theorem enter_env (op : DevOp) : (enter op s).env = s.env := rfl
@[simp] theorem enter_trace (op : DevOp) : (enter op s).trace = s.trace := rfl

@[simp] theorem loadAddress_line : (loadAddress s).line = s.line := rfl
@[simp] theorem loadAddress_slotE : (loadAddress s).slotE = s.slotE := rfl
@[simp] theorem loadAddress_frame : (loadAddress s).frame = s.frame := rfl
@[simp] theorem loadAddress_desc : (loadAddress s).desc = s.desc := rfl
@[simp] theorem loadAddress_opnd : (loadAddress s).opnd = s.opnd := rfl
@[simp] theorem loadAddress_res : (loadAddress s).res = s.res := rfl
@[simp] theorem loadAddress_seq : (loadAddress s).seq = s.seq := rfl
@[simp] theorem loadAddress_orch : (loadAddress s).orch = { s.orch with curAddr := s.opnd.offset } := rfl
@[simp] theorem loadAddress_savedIe : (loadAddress s).savedIe = s.savedIe := rfl
@[simp] theorem loadAddress_inited : (loadAddress s).inited = s.inited := rfl
@[simp] theorem loadAddress_host : (loadAddress s).host = s.host := rfl
@[simp] theorem loadAddress_env : (loadAddress s).env = s.env := rfl
@[simp] theorem loadAddress_trace : (loadAddress s).trace = s.trace := rfl

@[simp] theorem loadWriteOperands_line : (loadWriteOperands s).line = s.line := rfl
@[simp] theorem loadWriteOperands_slotE : (loadWriteOperands s).slotE = s.slotE := rfl
@[simp] theorem loadWriteOperands_frame : (loadWriteOperands s).frame = s.frame := rfl
@[simp] theorem loadWriteOperands_desc : (loadWriteOperands s).desc = s.desc := rfl
@[simp] theorem loadWriteOperands_opnd : (loadWriteOperands s).opnd = s.opnd := rfl
@[simp] theorem loadWriteOperands_res : (loadWriteOperands s).res = s.res := rfl
@[simp] theorem loadWriteOperands_seq : (loadWriteOperands s).seq = s.seq := rfl
@[simp] theorem loadWriteOperands_orch : (loadWriteOperands s).orch = { s.orch with curAddr := s.opnd.offset, curPtr := 0 } := rfl
@[simp] theorem loadWriteOperands_savedIe : (loadWriteOperands s).savedIe = s.savedIe := rfl
@[simp] theorem loadWriteOperands_inited : (loadWriteOperands s).inited = s.inited := rfl
@[simp] theorem loadWriteOperands_host : (loadWriteOperands s).host = s.host := rfl
@[simp] theorem loadWriteOperands_env : (loadWriteOperands s).env = s.env := rfl
@[simp] theorem loadWriteOperands_trace : (loadWriteOperands s).trace = s.trace := rfl

@[simp] theorem loadPagedOperands_line : (loadPagedOperands s).line = s.line := rfl
@[simp] theorem loadPagedOperands_slotE : (loadPagedOperands s).slotE = s.slotE := rfl
@[simp] theorem loadPagedOperands_frame : (loadPagedOperands s).frame = s.frame := rfl
@[simp] theorem loadPagedOperands_desc : (loadPagedOperands s).desc = s.desc := rfl
@[simp] theorem loadPagedOperands_opnd : (loadPagedOperands s).opnd = s.opnd := rfl
@[simp] theorem loadPagedOperands_res : (loadPagedOperands s).res = s.res := rfl
@[simp] theorem loadPagedOperands_seq : (loadPagedOperands s).seq = s.seq := rfl
@[simp] theorem loadPagedOperands_orch : (loadPagedOperands s).orch = { s.orch with curAddr := s.opnd.offset, curPtr := 0, rem := s.opnd.length } := rfl
@[simp] theorem loadPagedOperands_savedIe : (loadPagedOperands s).savedIe = s.savedIe := rfl
@[simp] theorem loadPagedOperands_inited : (loadPagedOperands s).inited = s.inited := rfl
@[simp] theorem loadPagedOperands_host : (loadPagedOperands s).host = s.host := rfl
@[simp] theorem loadPagedOperands_env : (loadPagedOperands s).env = s.env := rfl
@[simp] theorem loadPagedOperands_trace : (loadPagedOperands s).trace = s.trace := rfl

@[simp] theorem takeChunk_line : (takeChunk s).line = s.line := rfl
@[simp] theorem takeChunk_slotE : (takeChunk s).slotE = s.slotE := rfl
@[simp] theorem takeChunk_frame : (takeChunk s).frame = s.frame := rfl
@[simp] theorem takeChunk_desc : (takeChunk s).desc = s.desc := rfl
@[simp] theorem takeChunk_opnd : (takeChunk s).opnd = s.opnd := rfl
@[simp] theorem takeChunk_res : (takeChunk s).res = s.res := rfl
@[simp] theorem takeChunk_seq : (takeChunk s).seq = s.seq := rfl
@[simp] theorem takeChunk_orch : (takeChunk s).orch = { s.orch with chunk := BitVec.ofNat 5 (chunkLength s.orch.rem s.orch.curAddr) } := rfl
@[simp] theorem takeChunk_savedIe : (takeChunk s).savedIe = s.savedIe := rfl
@[simp] theorem takeChunk_inited : (takeChunk s).inited = s.inited := rfl
@[simp] theorem takeChunk_host : (takeChunk s).host = s.host := rfl
@[simp] theorem takeChunk_env : (takeChunk s).env = s.env := rfl
@[simp] theorem takeChunk_trace : (takeChunk s).trace = s.trace := rfl

@[simp] theorem advanceChunk_line : (advanceChunk s).line = s.line := rfl
@[simp] theorem advanceChunk_slotE : (advanceChunk s).slotE = s.slotE := rfl
@[simp] theorem advanceChunk_frame : (advanceChunk s).frame = s.frame := rfl
@[simp] theorem advanceChunk_desc : (advanceChunk s).desc = s.desc := rfl
@[simp] theorem advanceChunk_opnd : (advanceChunk s).opnd = s.opnd := rfl
@[simp] theorem advanceChunk_res : (advanceChunk s).res = s.res := rfl
@[simp] theorem advanceChunk_seq : (advanceChunk s).seq = s.seq := rfl
@[simp] theorem advanceChunk_savedIe : (advanceChunk s).savedIe = s.savedIe := rfl
@[simp] theorem advanceChunk_inited : (advanceChunk s).inited = s.inited := rfl
@[simp] theorem advanceChunk_host : (advanceChunk s).host = s.host := rfl
@[simp] theorem advanceChunk_env : (advanceChunk s).env = s.env := rfl
@[simp] theorem advanceChunk_trace : (advanceChunk s).trace = s.trace := rfl

@[simp] theorem popMove_line : (popMove s).line = s.line := rfl
@[simp] theorem popMove_slotE : (popMove s).slotE = s.slotE := rfl
@[simp] theorem popMove_frame : (popMove s).frame = s.frame := rfl
@[simp] theorem popMove_desc : (popMove s).desc = s.desc := rfl
@[simp] theorem popMove_opnd : (popMove s).opnd = s.opnd := rfl
@[simp] theorem popMove_res : (popMove s).res = s.res := rfl
@[simp] theorem popMove_seq : (popMove s).seq = s.seq := rfl
@[simp] theorem popMove_orch : (popMove s).orch = s.orch := rfl
@[simp] theorem popMove_savedIe : (popMove s).savedIe = s.savedIe := rfl
@[simp] theorem popMove_inited : (popMove s).inited = s.inited := rfl
@[simp] theorem popMove_host : (popMove s).host = s.host := rfl
@[simp] theorem popMove_env : (popMove s).env = { s.env with moves := s.env.moves.tail } := rfl
@[simp] theorem popMove_trace : (popMove s).trace = s.trace := rfl

@[simp] theorem hardReset_line : (hardReset s).line = State.reset.line := rfl
@[simp] theorem hardReset_slotE : (hardReset s).slotE = State.reset.slotE := rfl
@[simp] theorem hardReset_frame : (hardReset s).frame = State.reset.frame := rfl
@[simp] theorem hardReset_desc : (hardReset s).desc = State.reset.desc := rfl
@[simp] theorem hardReset_opnd : (hardReset s).opnd = State.reset.opnd := rfl
@[simp] theorem hardReset_res : (hardReset s).res = State.reset.res := rfl
@[simp] theorem hardReset_seq : (hardReset s).seq = State.reset.seq := rfl
@[simp] theorem hardReset_orch : (hardReset s).orch = State.reset.orch := rfl
@[simp] theorem hardReset_savedIe : (hardReset s).savedIe = State.reset.savedIe := rfl
@[simp] theorem hardReset_inited : (hardReset s).inited = State.reset.inited := rfl
@[simp] theorem hardReset_host : (hardReset s).host = s.host := rfl
@[simp] theorem hardReset_env : (hardReset s).env = s.env := rfl
@[simp] theorem hardReset_trace : (hardReset s).trace = s.trace := rfl

@[simp] theorem pulseStart_line : (pulseStart s).line = s.line := rfl
@[simp] theorem pulseStart_slotE : (pulseStart s).slotE = s.slotE := rfl
@[simp] theorem pulseStart_frame : (pulseStart s).frame = s.frame := rfl
@[simp] theorem pulseStart_desc : (pulseStart s).desc = s.desc := rfl
@[simp] theorem pulseStart_opnd : (pulseStart s).opnd = s.opnd := rfl
@[simp] theorem pulseStart_res : (pulseStart s).res = { s.res with busy := true, done := false } := rfl
@[simp] theorem pulseStart_seq : (pulseStart s).seq = { s.seq with phase := .dispatch } := rfl
@[simp] theorem pulseStart_orch : (pulseStart s).orch = s.orch := rfl
@[simp] theorem pulseStart_savedIe : (pulseStart s).savedIe = s.savedIe := rfl
@[simp] theorem pulseStart_inited : (pulseStart s).inited = s.inited := rfl
@[simp] theorem pulseStart_host : (pulseStart s).host = s.host := rfl
@[simp] theorem pulseStart_env : (pulseStart s).env = s.env := rfl
@[simp] theorem pulseStart_trace : (pulseStart s).trace = s.trace := rfl

end Sys2Proof.Machine
end

