-- ==== Sys2Proof/Laws/Memory.lean ====
section
/-! SUPPORT. The host buffer: read after write, and that every write keeps the canonical form. -/

namespace Sys2Proof.Machine

theorem memRead_memWrite_same (m : Memory) (i : Nat) (v : Byte) (lo : Nat) (h : memWfFrom lo m = true) :
    memRead (memWrite m i v) i = v := by
  induction m generalizing lo with
  | nil => by_cases hv : v = unlistedByte <;> simp [memWrite, memRead, hv]
  | cons c m ih =>
    obtain ⟨a, b⟩ := c
    simp only [memWfFrom, Bool.and_eq_true, decide_eq_true_eq] at h
    have hrest : ∀ (m : Memory) (lo : Nat), memWfFrom lo m = true → i < lo → memRead m i = unlistedByte := by
      intro m
      induction m with
      | nil => intro _ _ _; rfl
      | cons c m ih =>
        obtain ⟨a, b⟩ := c
        intro lo h hi
        simp only [memWfFrom, Bool.and_eq_true, decide_eq_true_eq] at h
        simp only [memRead]
        rw [if_neg (by omega)]
        exact ih (a + 1) h.2 (by omega)
    unfold memWrite
    split
    · split
      · simp only [memRead]
        rw [if_neg (by omega), hrest m (a + 1) h.2 (by omega)]
        simp [*]
      · simp [memRead]
    · split
      · subst i
        split
        · rw [hrest m (a + 1) h.2 (by omega)]; simp [*]
        · simp [memRead]
      · simp only [memRead]
        rw [if_neg (by omega)]
        exact ih (a + 1) h.2

theorem memRead_memWrite_other (m : Memory) (i j : Nat) (v : Byte) (hij : i ≠ j) :
    memRead (memWrite m i v) j = memRead m j := by
  induction m with
  | nil => by_cases hv : v = unlistedByte <;> simp [memWrite, memRead, hv, hij]
  | cons c m ih =>
    obtain ⟨a, b⟩ := c
    unfold memWrite
    split
    · split <;> simp [memRead, hij]
    · split
      · subst i
        split <;> simp [memRead, hij]
      · by_cases haj : a = j <;> simp [memRead, haj, ih]

theorem memWrite_wfFrom (m : Memory) (i : Nat) (v : Byte) (lo : Nat) (h : memWfFrom lo m = true) (hi : lo ≤ i) :
    memWfFrom lo (memWrite m i v) = true := by
  induction m generalizing lo with
  | nil =>
    by_cases hv : v = unlistedByte <;> simp [memWrite, memWfFrom, hv, hi]
  | cons c m ih =>
    obtain ⟨a, b⟩ := c
    simp only [memWfFrom, Bool.and_eq_true, decide_eq_true_eq, bne_iff_ne, ne_eq] at h
    unfold memWrite
    split
    · by_cases hv : v = unlistedByte
      · simp [memWfFrom, hv, h]
      · simp only [if_neg hv, memWfFrom, Bool.and_eq_true, decide_eq_true_eq, bne_iff_ne, ne_eq]
        exact ⟨⟨hi, hv⟩, ⟨by omega, h.1.2⟩, h.2⟩
    · split
      · subst i
        by_cases hv : v = unlistedByte
        · simp only [if_pos hv]
          have weaken : ∀ (m : Memory) (x y : Nat), memWfFrom x m = true → y ≤ x → memWfFrom y m = true := by
            intro m x y hx hy
            cases m with
            | nil => rfl
            | cons c m =>
              simp only [memWfFrom, Bool.and_eq_true, decide_eq_true_eq] at hx ⊢
              exact ⟨⟨by omega, hx.1.2⟩, hx.2⟩
          exact weaken m (a + 1) lo h.2 (by omega)
        · simp only [if_neg hv, memWfFrom, Bool.and_eq_true, decide_eq_true_eq, bne_iff_ne, ne_eq]
          exact ⟨⟨hi, hv⟩, h.2⟩
      · simp only [memWfFrom, Bool.and_eq_true, decide_eq_true_eq, bne_iff_ne, ne_eq]
        exact ⟨⟨h.1.1, h.1.2⟩, ih (a + 1) h.2 (by omega)⟩

/-- The only operation on the buffer keeps its canonical form. -/
theorem memWrite_wf (m : Memory) (i : Nat) (v : Byte) (h : m.wf = true) : Memory.wf (memWrite m i v) = true :=
  memWrite_wfFrom m i v 0 h (Nat.zero_le i)

/-- A write lists no address but the old ones and its own. -/
theorem mem_memWrite (m : Memory) (i : Nat) (v : Byte) (c : Host.Cell) (h : c ∈ memWrite m i v) : c ∈ m ∨ c.1 = i := by
  induction m with
  | nil =>
    by_cases hv : v = unlistedByte
    · simp [memWrite, hv] at h
    · simp only [memWrite, if_neg hv, List.mem_singleton] at h
      exact .inr (by rw [h])
  | cons d m ih =>
    obtain ⟨a, b⟩ := d
    unfold memWrite at h
    split at h
    · split at h
      · exact .inl h
      · rcases List.mem_cons.1 h with h | h
        · exact .inr (by rw [h])
        · exact .inl h
    · split at h
      · subst i
        split at h
        · exact .inl (List.mem_cons_of_mem _ h)
        · rcases List.mem_cons.1 h with h | h
          · exact .inr (by rw [h])
          · exact .inl (List.mem_cons_of_mem _ h)
      · rcases List.mem_cons.1 h with h | h
        · exact .inl (by simp [h])
        · exact (ih h).imp_left (List.mem_cons_of_mem _)

@[simp] theorem bufWrite_read_same (s : State) (i : Nat) (v : Byte) (h : s.host.buf.wf = true) :
    memRead (bufWrite i v s).host.buf i = v := memRead_memWrite_same _ _ _ 0 h

theorem reset_buffer_wf : State.reset.host.buf.wf = true := rfl

end Sys2Proof.Machine
end

