-- ==== Sys2Proof/Laws/Bus.lean ====
section
/-! SUPPORT. The environment's answers, and one bit slot: everything `exchangeBit` and `readOneBit` do. -/

namespace Sys2Proof.Machine

/-! ## Answers -/

@[simp] theorem Env.after_zero (e : Env) : e.after 0 = e := by simp [Env.after]

@[simp] theorem Env.after_after (e : Env) (m n : Nat) : (e.after m).after n = e.after (m + n) := by
  simp [Env.after, List.drop_drop, Nat.add_assoc]

@[simp] theorem Env.after_moves (e : Env) (n : Nat) : (e.after n).moves = e.moves := rfl

@[simp] theorem envDrive_after (e : Env) (m k : Nat) : envDrive (e.after m) k = envDrive e (m + k) := by
  simp [envDrive, Env.after, List.getElem?_drop, Nat.add_assoc]

@[simp] theorem nextSample_env (s : State) : (nextSample s).env = s.env.after 1 := by
  simp [nextSample, Env.after]

@[simp] theorem sampleA_env (s : State) : (sampleA s).env = s.env.after 1 := by simp [sampleA]

@[simp] theorem sampleB_env (s : State) : (sampleB s).env = s.env.after 1 := by simp [sampleB]

theorem resolveWire_input (lvl : Bool) (d : Drive) (c : Bool) : resolveWire .input lvl d c = releasedLevel d := rfl

theorem resolveWire_quiet (lvl c : Bool) : resolveWire .output lvl none c = lvl := rfl

/-! ## One slot -/

/-- The first sample of a slot that carries `w`. -/
def firstSample (w : Bool) (s : State) : Bool :=
  resolveWire s.line.dir (!w) (envDrive s.env 0) (Config.contention s.env.samples)

/-- The second sample of a slot that carries `w`. -/
def secondSample (w : Bool) (s : State) : Bool :=
  resolveWire s.line.dir w (envDrive s.env 1) (Config.contention (s.env.samples + 1))

/-- Everything `exchange_bit(w)` does (40_bus_primitive.md R145). -/
theorem exchangeBit_eq (w : Bool) (s : State) :
    exchangeBit w s =
      { s with
        line := { s.line with lvl := w }
        slotE := { sa := firstSample w s, sb := secondSample w s, qtr := 0, tmr := 0 }
        env := s.env.after 2
        trace := (slotTrace w (firstSample w s) (secondSample w s)).reverse ++ s.trace } := by
  have hd : envDrive { s.env with script := s.env.script.tail, samples := s.env.samples + 1 } 0 = envDrive s.env 1 := by
    simpa [Env.after] using envDrive_after s.env 1 0
  simp only [exchangeBit, quarter, setQtr, sampleA, sampleB, dly, emit, awaitTimer, loadTimer, lvlOp, nextSample, wireLevel,
    driveAt, firstSample, secondSample, slotTrace, Env.after]
  have ht : s.env.script.tail.tail = s.env.script.drop 2 := by rw [← List.drop_one, ← List.drop_one, List.drop_drop]
  simp [hd, ht]

/-- The observed value of a released slot (R102). -/
theorem exchangeBit_observed_released (w : Bool) (s : State) (h : s.line.dir = .input) :
    observed (exchangeBit w s) = answerBit (driveAt s 0) (driveAt s 1) := by
  simp [exchangeBit_eq, observed, firstSample, secondSample, h, resolveWire_input, answerBit, driveAt]

/-- Everything `read_one_bit()` does (R147). -/
theorem readOneBit_eq (s : State) :
    readOneBit s =
      { s with
        line := { dir := .output, lvl := true }
        slotE := { sa := releasedLevel (driveAt s 0), sb := releasedLevel (driveAt s 1), qtr := 0, tmr := 0 }
        env := s.env.after 2
        trace := (releasedSlotTrace (releasedLevel (driveAt s 0)) (releasedLevel (driveAt s 1))).reverse ++ s.trace } := by
  simp [readOneBit, exchangeBit_eq, dirOp, firstSample, secondSample, resolveWire_input, releasedSlotTrace, driveAt]

theorem readOneBit_observed (s : State) : observed (readOneBit s) = answerBit (driveAt s 0) (driveAt s 1) := by
  simp [readOneBit_eq, observed, answerBit]

end Sys2Proof.Machine
end

