-- ==== Sys2Proof/Laws/Framing.lean ====
section
/-! SUPPORT. Frames: everything `sendByte` and `receiveByte` do, and what a run of frames leaves alone. -/

namespace Sys2Proof.Machine

/-! ## What a step inside a frame leaves alone -/

theorem SameBesidesFrames.refl (s : State) : SameBesidesFrames s s := ⟨rfl, rfl, rfl, rfl, rfl, rfl, rfl, rfl, rfl⟩

theorem SameBesidesFrames.trans {s t u : State} (h : SameBesidesFrames s t) (g : SameBesidesFrames t u) :
    SameBesidesFrames s u :=
  ⟨g.1.trans h.1, g.2.trans h.2, g.3.trans h.3, g.4.trans h.4, g.5.trans h.5, g.6.trans h.6, g.7.trans h.7, g.8.trans h.8,
    g.9.trans h.9⟩

/-! ## Slots of a frame -/

theorem sendSlot_eq (s : State) (k : Fin 10) :
    sendSlot s k =
      { s with
        line := { s.line with lvl := topBit s }
        slotE := { sa := firstSample (topBit s) s, sb := secondSample (topBit s) s, qtr := 0, tmr := 0 }
        frame := { s.frame with slot := k, shr := s.frame.shr.extractLsb' 0 7 ++ 0#1 }
        env := s.env.after 2
        trace := (slotTrace (topBit s) (firstSample (topBit s) s) (secondSample (topBit s) s)).reverse ++ s.trace } := by
  simp [sendSlot, exchangeBit_eq, shiftIn, setShr, setSlot, topBit, firstSample, secondSample]

theorem receiveSlot_eq (s : State) (k : Fin 10) (h : s.line.dir = .input) :
    receiveSlot s k =
      { s with
        line := { s.line with lvl := true }
        slotE := { sa := releasedLevel (driveAt s 0), sb := releasedLevel (driveAt s 1), qtr := 0, tmr := 0 }
        frame := { s.frame with
          slot := k
          shr := s.frame.shr.extractLsb' 0 7 ++ BitVec.ofBool (answerBit (driveAt s 0) (driveAt s 1)) }
        env := s.env.after 2
        trace := (slotTrace true (releasedLevel (driveAt s 0)) (releasedLevel (driveAt s 1))).reverse ++ s.trace } := by
  simp [receiveSlot, exchangeBit_eq, shiftIn, setShr, setSlot, firstSample, secondSample, h, resolveWire_input, observed,
    answerBit, driveAt]

theorem makSlot_eq (s : State) :
    makSlot s =
      { s with
        line := { s.line with lvl := s.frame.makb }
        slotE := { sa := firstSample s.frame.makb s, sb := secondSample s.frame.makb s, qtr := 0, tmr := 0 }
        frame := { s.frame with slot := 8 }
        env := s.env.after 2
        trace := (slotTrace s.frame.makb (firstSample s.frame.makb s) (secondSample s.frame.makb s)).reverse ++ s.trace } := by
  simp [makSlot, exchangeBit_eq, setSlot, firstSample, secondSample]

theorem sakSlot_eq (s : State) :
    sakSlot s =
      { s with
        line := { dir := .output, lvl := true }
        slotE := { sa := releasedLevel (driveAt s 0), sb := releasedLevel (driveAt s 1), qtr := 0, tmr := 0 }
        frame := { s.frame with slot := 9, ack := answerBit (driveAt s 0) (driveAt s 1) }
        env := s.env.after 2
        trace := (releasedSlotTrace (releasedLevel (driveAt s 0)) (releasedLevel (driveAt s 1))).reverse ++ s.trace } := by
  simp [sakSlot, readOneBit_eq, setAck, setSlot, observed, answerBit, driveAt]

/-! ## A transmitted frame -/

/-- The eight data slots of a transmitted frame: the line keeps its direction, sixteen answers are used up, the byte is
shifted out. -/
theorem sendSlots_env (s : State) (ks : List (Fin 10)) :
    (ks.foldl sendSlot s).env = s.env.after (2 * ks.length) ∧ (ks.foldl sendSlot s).line.dir = s.line.dir ∧
      SameBesidesFrames s (ks.foldl sendSlot s) ∧ (ks.foldl sendSlot s).frame.makb = s.frame.makb := by
  induction ks generalizing s with
  | nil => exact ⟨by simp, rfl, .refl s, rfl⟩
  | cons k ks ih =>
    obtain ⟨h1, h2, h3, h4⟩ := ih (sendSlot s k)
    have hs : SameBesidesFrames s (sendSlot s k) := by
      rw [sendSlot_eq]; exact ⟨rfl, rfl, rfl, rfl, rfl, rfl, rfl, rfl, rfl⟩
    refine ⟨?_, ?_, hs.trans h3, ?_⟩
    · rw [List.foldl_cons, h1, sendSlot_eq]; simp only [Env.after_after, List.length_cons]; congr 1; omega
    · rw [List.foldl_cons, h2, sendSlot_eq]
    · rw [List.foldl_cons, h4, sendSlot_eq]

/-- What `send_byte` leaves (R160, R165): the line driven high, twenty answers used up, `ACK` the decoded last slot. -/
theorem sendByte_spec (v : Byte) (more : Bool) (s : State) :
    (sendByte v more s).line = { dir := .output, lvl := true } ∧
    (sendByte v more s).env = s.env.after 20 ∧
    (sendByte v more s).frame.ack = ackAt s 0 ∧
    (sendByte v more s).frame.makb = more ∧
    (sendByte v more s).frame.slot = 9 ∧
    (sendByte v more s).slotE.qtr = 0 ∧ (sendByte v more s).slotE.tmr = 0 ∧
    SameBesidesFrames s (sendByte v more s) := by
  obtain ⟨h1, -, h3, h4⟩ := sendSlots_env (setMakb more (setShr v s)) dataSlots
  have he : (dataSlots.foldl sendSlot (setMakb more (setShr v s))).env = s.env.after 16 := h1
  have hack : ackAt s 0 = answerBit (envDrive s.env 18) (envDrive s.env 19) := rfl
  unfold sendByte
  rw [sakSlot_eq, makSlot_eq]
  refine ⟨rfl, ?_, ?_, h4, rfl, rfl, rfl, ?_⟩
  · simp [he]
  · simp [hack, driveAt, he]
  · exact ⟨h3.1, h3.2, h3.3, h3.4, h3.5, h3.6, h3.7, h3.8, by simp [he]⟩

/-- The shift moves every bit up by one (10_state.md R27). -/
theorem shifted_getElem (x : Byte) (b : BitVec 1) (k : Nat) (h : k + 1 < 8) :
    (x.extractLsb' 0 7 ++ b)[k + 1] = x[k] := by
  rw [BitVec.getElem_append]
  simp [BitVec.getLsbD_eq_getElem, show k < 8 by omega]

/-- The micro-operations of the data slots of a transmitted frame on a quiet line. -/
theorem sendByte_trace (v : Byte) (more : Bool) (s : State) (hd : s.line.dir = .output) (hq : quietFor s 18) :
    (sendByte v more s).trace =
      (sentFrameTrace v more (releasedLevel (driveAt s 18)) (releasedLevel (driveAt s 19))).reverse ++ s.trace := by
  have q : ∀ k, k < 18 → envDrive s.env k = none := hq
  have hf : ∀ w (t : State), t.line.dir = .output → envDrive t.env 0 = none → firstSample w t = !w := by
    intro w t h1 h2; simp [firstSample, h1, h2, resolveWire_quiet]
  have hs : ∀ w (t : State), t.line.dir = .output → envDrive t.env 1 = none → secondSample w t = w := by
    intro w t h1 h2; simp [secondSample, h1, h2, resolveWire_quiet]
  simp only [sendByte, dataSlots, List.foldl_cons, List.foldl_nil, sakSlot_eq, makSlot_eq, sendSlot_eq, sentFrameTrace,
    wireBits, setMakb, setShr, topBit]
  simp [hf, hs, hd, q, drivenSlotTrace, driveAt, shifted_getElem]

/-! ## A received frame -/

/-- The data slots of a received frame: the line stays released, the answers are used up in order, every decoded bit is
shifted in. -/
theorem receiveSlots_env (s : State) (ks : List (Fin 10)) (h : s.line.dir = .input) :
    (ks.foldl receiveSlot s).env = s.env.after (2 * ks.length) ∧ (ks.foldl receiveSlot s).line.dir = .input ∧
      SameBesidesFrames s (ks.foldl receiveSlot s) ∧ (ks.foldl receiveSlot s).frame.makb = s.frame.makb ∧
      (ks.foldl receiveSlot s).frame.shr =
        (List.range ks.length).foldl (fun b j => b.extractLsb' 0 7 ++ BitVec.ofBool (dataBitAt s 0 j)) s.frame.shr := by
  induction ks generalizing s with
  | nil => exact ⟨by simp, h, .refl s, rfl, rfl⟩
  | cons k ks ih =>
    have hd : (receiveSlot s k).line.dir = .input := by rw [receiveSlot_eq s k h]; exact h
    have he : (receiveSlot s k).env = s.env.after 2 := by rw [receiveSlot_eq s k h]
    obtain ⟨h1, h2, h3, h4, h5⟩ := ih (receiveSlot s k) hd
    have hs : SameBesidesFrames s (receiveSlot s k) := by
      rw [receiveSlot_eq s k h]; exact ⟨rfl, rfl, rfl, rfl, rfl, rfl, rfl, rfl, rfl⟩
    refine ⟨?_, h2, hs.trans h3, ?_, ?_⟩
    · rw [List.foldl_cons, h1, he]; simp only [Env.after_after, List.length_cons]; congr 1; omega
    · rw [List.foldl_cons, h4, receiveSlot_eq s k h]
    · have hb : ∀ j, dataBitAt (receiveSlot s k) 0 j = dataBitAt s 0 (j + 1) := by
        intro j
        simp only [dataBitAt, driveAt, he, envDrive_after]
        congr 2 <;> omega
      rw [List.foldl_cons, h5, List.length_cons, List.range_succ_eq_map, List.foldl_cons, List.foldl_map]
      simp only [hb]
      rw [receiveSlot_eq s k h]
      rfl

/-! The store of a received byte writes `STATUS_R` or one byte of the buffer (R169). -/

@[simp] theorem storeReceived_line (s : State) : (storeReceived s).line = s.line := by
  unfold storeReceived; split <;> rfl
@[simp] theorem storeReceived_slotE (s : State) : (storeReceived s).slotE = s.slotE := by
  unfold storeReceived; split <;> rfl
@[simp] theorem storeReceived_frame (s : State) : (storeReceived s).frame = s.frame := by
  unfold storeReceived; split <;> rfl
@[simp] theorem storeReceived_desc (s : State) : (storeReceived s).desc = s.desc := by
  unfold storeReceived; split <;> rfl
@[simp] theorem storeReceived_opnd (s : State) : (storeReceived s).opnd = s.opnd := by
  unfold storeReceived; split <;> rfl
@[simp] theorem storeReceived_seq (s : State) : (storeReceived s).seq = s.seq := by
  unfold storeReceived; split <;> rfl
@[simp] theorem storeReceived_orch (s : State) : (storeReceived s).orch = s.orch := by
  unfold storeReceived; split <;> rfl
@[simp] theorem storeReceived_savedIe (s : State) : (storeReceived s).savedIe = s.savedIe := by
  unfold storeReceived; split <;> rfl
@[simp] theorem storeReceived_inited (s : State) : (storeReceived s).inited = s.inited := by
  unfold storeReceived; split <;> rfl
@[simp] theorem storeReceived_env (s : State) : (storeReceived s).env = s.env := by
  unfold storeReceived; split <;> rfl
@[simp] theorem storeReceived_res_success (s : State) : (storeReceived s).res.success = s.res.success := by
  unfold storeReceived; split <;> rfl
@[simp] theorem storeReceived_res_busy (s : State) : (storeReceived s).res.busy = s.res.busy := by
  unfold storeReceived; split <;> rfl
@[simp] theorem storeReceived_res_done (s : State) : (storeReceived s).res.done = s.res.done := by
  unfold storeReceived; split <;> rfl
@[simp] theorem storeReceived_host_ie (s : State) : (storeReceived s).host.ie = s.host.ie := by
  unfold storeReceived; split <;> rfl
@[simp] theorem storeReceived_host_bufSize (s : State) : (storeReceived s).host.bufSize = s.host.bufSize := by
  unfold storeReceived; split <;> rfl

/-- What `receive_byte` leaves (R161, R165, R169): the line driven high, twenty answers used up, `ACK` the decoded last slot,
the decoded byte in `SHR` and where the descriptor says. -/
theorem receiveByte_spec (more : Bool) (s : State) :
    (receiveByte more s).line = { dir := .output, lvl := true } ∧
    (receiveByte more s).env = s.env.after 20 ∧
    (receiveByte more s).frame.ack = ackAt s 0 ∧
    (receiveByte more s).frame.slot = 9 ∧
    (receiveByte more s).slotE.qtr = 0 ∧ (receiveByte more s).slotE.tmr = 0 ∧
    (receiveByte more s).seq = s.seq ∧ (receiveByte more s).desc = s.desc ∧ (receiveByte more s).opnd = s.opnd ∧
    (receiveByte more s).orch = s.orch ∧ (receiveByte more s).savedIe = s.savedIe ∧
    (receiveByte more s).inited = s.inited ∧ (receiveByte more s).env.moves = s.env.moves ∧
    (receiveByte more s).res.success = s.res.success ∧ (receiveByte more s).res.busy = s.res.busy ∧
    (receiveByte more s).res.done = s.res.done ∧
    (receiveByte more s).host.ie = s.host.ie ∧ (receiveByte more s).host.bufSize = s.host.bufSize := by
  obtain ⟨h1, -, h3, -, -⟩ := receiveSlots_env (dirOp .input (setMakb more s)) dataSlots rfl
  have he : (dataSlots.foldl receiveSlot (dirOp .input (setMakb more s))).env = s.env.after 16 := h1
  generalize hu : dataSlots.foldl receiveSlot (dirOp .input (setMakb more s)) = u at *
  have hack : ackAt s 0 = answerBit (envDrive s.env 18) (envDrive s.env 19) := rfl
  have g1 := h3.desc; have g2 := h3.opnd; have g3 := h3.res; have g4 := h3.seq; have g5 := h3.orch
  have g6 := h3.savedIe; have g7 := h3.inited; have g8 := h3.host
  simp at g1 g2 g3 g4 g5 g6 g7 g8
  unfold receiveByte
  rw [hu, sakSlot_eq, makSlot_eq]
  simp [he, hack, driveAt, g1, g2, g3, g4, g5, g6, g7, g8]

end Sys2Proof.Machine
end

