-- ==== Sys2Proof/Laws/PerInstr.lean ====
section
/-! SUPPORT. What holds of every instruction as syntax, one lemma per constructor: the length of its encoding is that of its
format (30_encoding.md R100, R107, R124). -/

namespace Sys2Proof

/-- The bytes of an instruction's format. -/
def Laws.formatBytes (i : Instr) : Nat := if i.isRequest then 7 else
  match i with
  | .wireRead .. | .wireWrite .. => 4
  | .wireWrsr .. => 3
  | .wireWren .. | .wireWrdi .. | .wireRdsr .. => 2
  | _ => 1

/-- The encoding has the length of the format, and a length the decoder has a format for. -/
def Laws.EncodedLength.Statement (i : Instr) : Prop :=
  (encode i).length = Laws.formatBytes i ∧ tableBytes (8 * (encode i).length) = (encode i).length

namespace Laws.EncodedLength

theorem length_seven : tableBytes (8 * 7) = 7 := by decide
theorem length_four : tableBytes (8 * 4) = 4 := by decide
theorem length_three : tableBytes (8 * 3) = 3 := by decide
theorem length_two : tableBytes (8 * 2) = 2 := by decide
theorem length_one : tableBytes (8 * 1) = 1 := by decide

theorem init : Statement .init := ⟨rfl, length_seven⟩
theorem read (dev : Byte) (offset length : Half) : Statement (.read dev offset length) := ⟨rfl, length_seven⟩
theorem startWrite (dev : Byte) (offset length : Half) : Statement (.startWrite dev offset length) := ⟨rfl, length_seven⟩
theorem enableWrite (dev : Byte) : Statement (.enableWrite dev) := ⟨rfl, length_seven⟩
theorem disableWrite (dev : Byte) : Statement (.disableWrite dev) := ⟨rfl, length_seven⟩
theorem readStatus (dev : Byte) : Statement (.readStatus dev) := ⟨rfl, length_seven⟩
theorem writeStatus (dev status : Byte) : Statement (.writeStatus dev status) := ⟨rfl, length_seven⟩
theorem awaitWriteComplete (dev : Byte) : Statement (.awaitWriteComplete dev) := ⟨rfl, length_seven⟩
theorem simpleWrite (dev : Byte) (offset length : Half) : Statement (.simpleWrite dev offset length) := ⟨rfl, length_seven⟩
theorem reserved9 : Statement .reserved9 := ⟨rfl, length_seven⟩
theorem reserved10 : Statement .reserved10 := ⟨rfl, length_seven⟩
theorem reserved11 : Statement .reserved11 := ⟨rfl, length_seven⟩
theorem reserved12 : Statement .reserved12 := ⟨rfl, length_seven⟩
theorem reserved13 : Statement .reserved13 := ⟨rfl, length_seven⟩
theorem reserved14 : Statement .reserved14 := ⟨rfl, length_seven⟩
theorem reserved15 : Statement .reserved15 := ⟨rfl, length_seven⟩
theorem wireRead (dev hi lo : Byte) : Statement (.wireRead dev hi lo) := ⟨rfl, length_four⟩
theorem wireWrite (dev hi lo : Byte) : Statement (.wireWrite dev hi lo) := ⟨rfl, length_four⟩
theorem wireWren (dev : Byte) : Statement (.wireWren dev) := ⟨rfl, length_two⟩
theorem wireWrdi (dev : Byte) : Statement (.wireWrdi dev) := ⟨rfl, length_two⟩
theorem wireRdsr (dev : Byte) : Statement (.wireRdsr dev) := ⟨rfl, length_two⟩
theorem wireWrsr (dev status : Byte) : Statement (.wireWrsr dev status) := ⟨rfl, length_three⟩
theorem crrd : Statement .crrd := ⟨rfl, length_one⟩
theorem eral : Statement .eral := ⟨rfl, length_one⟩
theorem setal : Statement .setal := ⟨rfl, length_one⟩
theorem startHeader : Statement .startHeader := ⟨rfl, length_one⟩
theorem bit1 : Statement .bit1 := ⟨rfl, length_one⟩
theorem bit0 : Statement .bit0 := ⟨rfl, length_one⟩

end Laws.EncodedLength

end Sys2Proof
end

