-- ==== Sys2Proof/Laws/Runs.lean ====
section
/-! SUPPORT. Runs of frames, wire commands and transactions: what each of them leaves alone. -/

namespace Sys2Proof.Machine

/-- Two states that agree outside the line, the slot and frame engines, `BYTEIDX`, `OK`, `STATUS_R`, the buffer's bytes, the
answers and the trace. -/
structure SameBesidesRun (s t : State) : Prop where
  desc : t.desc = s.desc
  opnd : t.opnd = s.opnd
  orch : t.orch = s.orch
  savedIe : t.savedIe = s.savedIe
  inited : t.inited = s.inited
  moves : t.env.moves = s.env.moves
  phase : t.seq.phase = s.seq.phase
  curop : t.seq.curop = s.seq.curop
  success : t.res.success = s.res.success
  busy : t.res.busy = s.res.busy
  done : t.res.done = s.res.done
  ie : t.host.ie = s.host.ie
  bufSize : t.host.bufSize = s.host.bufSize

theorem SameBesidesRun.refl (s : State) : SameBesidesRun s s :=
  ⟨rfl, rfl, rfl, rfl, rfl, rfl, rfl, rfl, rfl, rfl, rfl, rfl, rfl⟩

theorem SameBesidesRun.trans {s t u : State} (h : SameBesidesRun s t) (g : SameBesidesRun t u) : SameBesidesRun s u :=
  ⟨g.1.trans h.1, g.2.trans h.2, g.3.trans h.3, g.4.trans h.4, g.5.trans h.5, g.6.trans h.6, g.7.trans h.7, g.8.trans h.8,
    g.9.trans h.9, g.10.trans h.10, g.11.trans h.11, g.12.trans h.12, g.13.trans h.13⟩

theorem SameBesidesFrames.run {s t : State} (h : SameBesidesFrames s t) : SameBesidesRun s t :=
  ⟨h.desc, h.opnd, h.orch, h.savedIe, h.inited, h.moves, by rw [h.seq], by rw [h.seq], by rw [h.res], by rw [h.res],
    by rw [h.res], by rw [h.host], by rw [h.host]⟩

theorem setByteidx_run (n : Nat) (s : State) : SameBesidesRun s (setByteidx n s) :=
  ⟨rfl, rfl, rfl, rfl, rfl, rfl, rfl, rfl, rfl, rfl, rfl, rfl, rfl⟩

theorem raise_run (f : Failure) (s : State) : SameBesidesRun s (raise f s) :=
  ⟨rfl, rfl, rfl, rfl, rfl, rfl, rfl, rfl, rfl, rfl, rfl, rfl, rfl⟩

theorem sendByte_run (v : Byte) (more : Bool) (s : State) : SameBesidesRun s (sendByte v more s) :=
  (sendByte_spec v more s).2.2.2.2.2.2.2.run

theorem receiveByte_run (more : Bool) (s : State) : SameBesidesRun s (receiveByte more s) := by
  obtain ⟨-, -, -, -, -, -, h1, h2, h3, h4, h5, h6, h7, h8, h9, h10, h11, h12⟩ := receiveByte_spec more s
  exact ⟨h2, h3, h4, h5, h6, h7, by rw [h1], by rw [h1], h8, h9, h10, h11, h12⟩

/-- A run of sent frames (R162). -/
theorem sendBuffer_run (data : State → Nat → Byte) (n : Nat) (terminate : Bool) (left : Nat) (s : State) :
    SameBesidesRun s (sendBuffer data n terminate left s) := by
  induction left generalizing s with
  | zero => exact .refl s
  | succ left ih =>
    have h := (setByteidx_run (n - (left + 1)) s).trans (sendByte_run
      (data (setByteidx (n - (left + 1)) s) (n - (left + 1))) (makSend (n - (left + 1)) n terminate)
      (setByteidx (n - (left + 1)) s))
    simp only [sendBuffer]
    split
    · exact h.trans (ih _)
    · exact h.trans (raise_run _ _)

/-- A run of received frames (R163). -/
theorem receiveBuffer_run (n left : Nat) (s : State) : SameBesidesRun s (receiveBuffer n left s) := by
  induction left generalizing s with
  | zero => exact .refl s
  | succ left ih =>
    have h := (setByteidx_run (n - (left + 1)) s).trans
      (receiveByte_run (makReceive (n - (left + 1)) n) (setByteidx (n - (left + 1)) s))
    simp only [receiveBuffer]
    split
    · exact h.trans (ih _)
    · exact h.trans (raise_run _ _)

/-- The frames of a wire command (43_device_operations.md R192). -/
theorem exchange_run (s : State) : SameBesidesRun s (exchange s) := by
  have h := sendBuffer_run (fun u i => cmdByte u.desc.cmd i) s.desc.cmdlen.toNat s.desc.cmdterm s.desc.cmdlen.toNat s
  simp only [exchange]
  split
  · refine h.trans ((setByteidx_run 0 _).trans ?_)
    unfold payload
    split
    · exact .refl _
    · exact sendBuffer_run ..
    · exact receiveBuffer_run ..
    · exact receiveBuffer_run ..
  · exact h

/-- The start header (42_command_protocol.md R182). -/
theorem startHeader_run (s : State) : SameBesidesRun s (startHeader s) := by
  have h : SameBesidesRun s (dly .hdr (lvlOp false s)) := ⟨rfl, rfl, rfl, rfl, rfl, rfl, rfl, rfl, rfl, rfl, rfl, rfl, rfl⟩
  exact h.trans (sendByte_run _ _ _)

/-- The lead of a transaction (R180, R181). -/
theorem leadIn_run (s : State) : SameBesidesRun s (leadIn s) := by
  unfold leadIn
  split <;> exact ⟨rfl, rfl, rfl, rfl, rfl, rfl, rfl, rfl, rfl, rfl, rfl, rfl, rfl⟩

/-- A transaction (43_device_operations.md R192, R214): `IE` as before it, saved on the way; the rest as its frames leave it. -/
theorem transaction_run (s : State) :
    (transaction s).host.ie = s.host.ie ∧ (transaction s).savedIe = s.host.ie ∧ (transaction s).desc = s.desc ∧
    (transaction s).opnd = s.opnd ∧ (transaction s).orch = s.orch ∧ (transaction s).inited = s.inited ∧
    (transaction s).env.moves = s.env.moves ∧ (transaction s).seq.phase = s.seq.phase ∧
    (transaction s).seq.curop = s.seq.curop ∧ (transaction s).res.success = s.res.success ∧
    (transaction s).res.busy = s.res.busy ∧ (transaction s).res.done = s.res.done ∧
    (transaction s).host.bufSize = s.host.bufSize := by
  have h := leadIn_run (setOk true s)
  unfold transaction
  generalize leadIn (setOk true s) = u at *
  have g := (startHeader_run (csEnter u)).trans (exchange_run _)
  generalize exchange (startHeader (csEnter u)) = v at *
  have hs : v.savedIe = s.host.ie := g.savedIe.trans h.ie
  exact ⟨hs, hs, g.desc.trans h.desc, g.opnd.trans h.opnd, g.orch.trans h.orch, g.inited.trans h.inited, g.moves.trans h.moves,
    g.phase.trans h.phase, g.curop.trans h.curop, g.success.trans h.success, g.busy.trans h.busy, g.done.trans h.done,
    g.bufSize.trans h.bufSize⟩

end Sys2Proof.Machine
end

