-- ==== Sys2Proof/Machine/Responder.lean ====
section
/-! DEFINITION. The reference responder `Dev` (20_memory.md R88 to R97): one line environment among many, for test
vectors only. It answers the frames of a session with the samples the master will take; no definition of the engine uses
it, and its state is no part of State (10_state.md R57). -/

namespace Sys2Proof.Machine

/-- Where the responder stands in a command (R90 to R96). -/
inductive DevStage where
  /-- Not selected, or done: nothing is driven until the next lead (R91). -/
  | silent
  /-- Waiting for the header hold (R90). -/
  | hold
  /-- The hold has been seen: waiting for the frame 0x55 with MAK (R90). -/
  | header
  /-- Waiting for the device address (R91). -/
  | address
  /-- Selected, waiting for the opcode. -/
  | opcode
  /-- Waiting for the address bytes of READ or WRITE. -/
  | addrHigh (op : Byte)
  | addrLow (op : Byte)
  /-- Sending memory (R92), collecting a page (R93), sending status (R95), taking a status byte (R96). -/
  | sending
  | collecting
  | status
  | newStatus
  deriving DecidableEq, Repr

/-- The responder (R88), its address counter `a` and its page buffer (R92, R93), and the frame it is scripted to leave
without acknowledgment, counted from now (R97). Memory holds `fill` where `mem` lists nothing. -/
structure Dev where
  mem : List Host.Cell
  fill : Byte
  size : Nat
  devaddr : Byte
  present : Bool
  wipPolls : Nat
  writePolls : Nat
  wel : Bool
  srHi : BitVec 7
  stage : DevStage
  a : Nat
  page : List Byte
  withhold : Option Nat
  deriving DecidableEq, Repr

/-- A frame the master puts on the wire: a byte or a reception, with its MAK bit. -/
inductive WireFrame where
  | sent (b : Byte) (mak : Bool)
  | received (mak : Bool)
  deriving DecidableEq, Repr

/-- The byte at a device address. -/
def devRead (d : Dev) (a : Nat) : Byte := ((d.mem.find? fun c => c.1 == a).map Prod.snd).getD d.fill

/-- A byte stored at a device address. -/
def devWrite (d : Dev) (a : Nat) (v : Byte) : Dev := { d with mem := (a, v) :: d.mem.filter fun c => c.1 != a }

/-- The two samples of a slot in which the responder drives a logical value, and of one it leaves alone (R89). -/
def drivenSlot (v : Bool) : List Drive := [some (!v), some v]
def quietSlot : List Drive := [none, none]

/-- The samples of eight data slots that carry a byte, most significant bit first (R74, R89). -/
def drivenByte (b : Byte) : List Drive := [7, 6, 5, 4, 3, 2, 1, 0].flatMap fun k => drivenSlot (b.getLsbD k)
def quietByte : List Drive := [quietSlot, quietSlot, quietSlot, quietSlot, quietSlot, quietSlot, quietSlot, quietSlot].flatten

/-- The samples of a whole frame: data slots, MAK slot (the master drives), SAK slot. -/
def frameSamples (data : List Drive) (sak : Bool) : List Drive :=
  data ++ quietSlot ++ (if sak then drivenSlot true else quietSlot)

/-- A standby pulse or a gap: the responder waits for the header hold (R90, R91). -/
def devLead (d : Dev) : Dev := { d with stage := .hold, page := [] }

/-- The header hold, the line held low for at least `T_HDR` (30_encoding.md R106): where the responder waits for it, it waits for
the frame 0x55 with MAK from here on (R90). -/
def devHold (d : Dev) : Dev := if d.stage = .hold then { d with stage := .header } else d

/-- WRITE is complete (R93): with the latch set, the page is stored, the write cycle starts and the latch clears. DESIGN CHOICE
(log 36): R81 leaves open what an address at or past `DEV_SIZE` does, and R93 gives no modulus; a byte there is stored at
the address modulo `DEV_SIZE`, as R92 reads. -/
def devCommit (d : Dev) : Dev :=
  if d.wel then
    let stored := d.page.foldl (fun (p : Dev × Nat) b => (devWrite p.1 (p.2 % d.size) b, p.2 + 1)) (d, d.a)
    { stored.1 with wipPolls := d.writePolls, wel := false, stage := .silent }
  else { d with stage := .silent }

/-- What follows a frame of a command: with MAK the next stage; a frame with NoMAK is the command's last (R92, 30_encoding.md R113),
and nothing is driven until the next lead. DEDUCED (log 36) for the frames before a payload, of which R113 speaks in general. -/
def devFollow (mak : Bool) (next : DevStage) : DevStage := if mak then next else .silent

/-- The device address (R91). -/
def devSelects (d : Dev) (b : Byte) : Bool := d.present && b == d.devaddr

/-- The stage after an opcode that takes a further frame (R92, R93, R95, R96). -/
def opcodeStage (op : Byte) : DevStage :=
  if op = Config.opcRdsr then .status else if op = Config.opcWrsr then .newStatus else .addrHigh op

/-- A byte received from the master, by stage (R90 to R96). DESIGN CHOICE (log 36), where the spec is silent: after a frame that is
not the header the responder goes on waiting from the hold on; an opcode of none of R92 to R96 is taken as WRITE; a WREN
or WRDI opcode frame with MAK leaves the latch, a new status byte with MAK is not stored, and either ends the command; a
WRITE that ends before its first data frame stores nothing and starts no write cycle; a byte sent where the responder sends
itself is passed over. -/
def devTake (d : Dev) (b : Byte) (mak : Bool) : Dev :=
  match d.stage with
  | .header => { d with stage := if b = Config.startHeader ∧ mak = true then .address else .hold }
  | .address => { d with stage := if devSelects d b then devFollow mak .opcode else .silent }
  | .opcode =>
    if b = Config.opcWren then { d with wel := if mak then d.wel else true, stage := .silent }
    else if b = Config.opcWrdi then { d with wel := if mak then d.wel else false, stage := .silent }
    else { d with stage := devFollow mak (opcodeStage b) }
  | .addrHigh op => { d with stage := devFollow mak (.addrLow op), a := 256 * b.toNat }
  | .addrLow op =>
    { d with stage := devFollow mak (if op = Config.opcRead then .sending else .collecting), a := d.a + b.toNat }
  | .collecting =>
    let t := { d with page := d.page ++ [b] }
    if mak then t else devCommit t
  | .newStatus => { d with srHi := if d.wel && !mak then b.extractLsb' 1 7 else d.srHi, stage := .silent }
  | .sending | .status => { d with stage := devFollow mak d.stage }
  | .silent | .hold => d

/-- The byte the responder drives in a received frame, and itself after it (R92, R95). A reception is no header, so the wait of R90
goes on; as the first frame after the header it carries no device address, so the responder stays silent (R91). DESIGN
CHOICE (log 36), where the spec is silent: the status byte ends an RDSR with MAK as with NoMAK, so later frames are not
acknowledged (R95 says only that one data frame is driven); in a reception where the responder has no byte to send it drives
nothing in the data slots (that a selected responder acknowledges it is R91), and the stage waits for the next frame if it
carried MAK; a WRITE whose frame with NoMAK is such a reception ends without a commit, the bytes collected before it dropped. -/
def devGive (d : Dev) (mak : Bool) : Option Byte × Dev :=
  match d.stage with
  | .sending => (some (devRead d (d.a % d.size)), { d with a := d.a + 1, stage := devFollow mak .sending })
  | .status => (some (d.srHi ++ BitVec.ofBool (decide (0 < d.wipPolls))), { d with wipPolls := d.wipPolls - 1, stage := .silent })
  | .header => (none, { d with stage := .hold })
  | .address => (none, { d with stage := .silent })
  | .opcode | .addrHigh _ | .addrLow _ | .collecting | .newStatus => (none, { d with stage := devFollow mak d.stage })
  | .silent | .hold => (none, d)

/-- Whether the responder acknowledges a frame: it is selected by it or before it, and it is not the frame it is
scripted to leave (R90, R91, R97). -/
def devAcks (d : Dev) (selects : Bool) : Bool :=
  match d.stage with
  | .silent | .hold | .header => false
  | .address => selects && d.withhold != some 0
  | .opcode | .addrHigh _ | .addrLow _ | .sending | .collecting | .status | .newStatus => d.withhold != some 0

/-- A frame withheld silences the responder (R97). -/
def devCount (d : Dev) : Dev :=
  match d.withhold with
  | some 0 => { d with withhold := none, stage := .silent }
  | some (n + 1) => { d with withhold := some n }
  | none => d

/-- One frame: the samples the master takes in it, whether it was acknowledged, and the responder after it. -/
def devFrame (d : Dev) (f : WireFrame) : Dev × List Drive × Bool :=
  match f with
  | .sent b mak =>
    let ack := devAcks d (devSelects d b)
    (devCount (devTake d b mak), frameSamples quietByte ack, ack)
  | .received mak =>
    let g := devGive d mak
    let ack := devAcks d false
    (devCount g.2, frameSamples ((g.1.map drivenByte).getD quietByte) ack, ack)

/-- The samples of the frames after a header, up to the first one left without acknowledgment. -/
def devFrames : Dev → List WireFrame → Dev × List Drive
  | d, [] => (d, [])
  | d, f :: rest =>
    let r := devFrame d f
    if r.2.2 then
      let q := devFrames r.1 rest
      (q.1, r.2.1 ++ q.2)
    else (r.1, r.2.1)

/-- A session (30_encoding.md R121): lead, header hold, header frame, then the frames of a command. -/
def devSession (d : Dev) (frames : List WireFrame) : Dev × List Drive :=
  let h := devFrame (devHold (devLead d)) (.sent Config.startHeader true)
  let q := devFrames h.1 frames
  (q.1, h.2.1 ++ q.2)

/-- The frames of a list of sent bytes, NoMAK on the last if `terminate` (41_byte_framing.md R162). -/
def sentFrames (terminate : Bool) : List Byte → List WireFrame
  | [] => []
  | b :: rest => .sent b (!(rest.isEmpty && terminate)) :: sentFrames terminate rest

/-- The frames of `n` receptions, NoMAK on the last (R163). -/
def receivedFrames : Nat → List WireFrame
  | 0 => []
  | n + 1 => .received (!(n == 0)) :: receivedFrames n

end Sys2Proof.Machine
end

