-- ==== Sys2Proof/Tests/Slice0.lean ====
section
/-! SUPPORT. The model's own tests: ill-formed terms, words written out from the spec, one or two small steps an instruction
with results from 95_test_vectors.md, and for each statement with hypotheses a state that meets them. -/

set_option maxRecDepth 20000

namespace Sys2Proof.Tests

open Sys2Proof.Machine

/-! ## Well-formedness: an ill-formed term for each check -/

theorem test_reserved_opsel_is_ill_formed : Instr.reserved9.opselAssigned = false ∧ Instr.reserved9.wellFormed = false := by
  decide
theorem test_reserved_opsel_last_is_ill_formed : Instr.reserved15.wellFormed = false := by decide
theorem test_reserved_opcode_is_ill_formed : Instr.crrd.opcodeAssigned = false ∧ Instr.crrd.wellFormed = false := by decide
theorem test_read_is_well_formed : (Instr.read 0xA0#8 0x1234#16 0#16).wellFormed = true := by decide

/-! ## Decoding: every row of the table, by a word written out from 30_encoding.md

R124: OPSEL, DEVADDR, OFFSET, LENGTH, STATUS_W, four, eight, sixteen, sixteen and eight bits. -/

theorem test_word_init : decodeTableWord 52 0x0_00_0000_0000_00 = some .init := by decide
theorem test_word_read : decodeTableWord 52 0x1_A0_0003_0004_00 = some (.read 0xA0#8 0x0003#16 0x0004#16) := by decide
theorem test_word_start_write : decodeTableWord 52 0x2_A0_000D_0004_00 = some (.startWrite 0xA0#8 0x000D#16 0x0004#16) := by
  decide
theorem test_word_enable_write : decodeTableWord 52 0x3_A0_0000_0000_00 = some (.enableWrite 0xA0#8) := by decide
theorem test_word_disable_write : decodeTableWord 52 0x4_A0_FFFF_0000_00 = some (.disableWrite 0xA0#8) := by decide
theorem test_word_read_status : decodeTableWord 52 0x5_5A_0000_FFFF_00 = some (.readStatus 0x5A#8) := by decide
theorem test_word_write_status : decodeTableWord 52 0x6_A0_0000_0000_0C = some (.writeStatus 0xA0#8 0x0C#8) := by decide
theorem test_word_await : decodeTableWord 52 0x7_A0_0000_0000_FF = some (.awaitWriteComplete 0xA0#8) := by decide
theorem test_word_simple_write : decodeTableWord 52 0x8_A0_001E_0004_00 = some (.simpleWrite 0xA0#8 0x001E#16 0x0004#16) := by
  decide
theorem test_words_reserved :
    decodeTableWord 52 0x9_00_0000_0000_00 = some .reserved9 ∧ decodeTableWord 52 0xA_01_0000_0000_00 = some .reserved10 ∧
    decodeTableWord 52 0xB_00_0200_0000_00 = some .reserved11 ∧ decodeTableWord 52 0xC_00_0000_0003_00 = some .reserved12 ∧
    decodeTableWord 52 0xD_00_0000_0000_04 = some .reserved13 ∧ decodeTableWord 52 0xE_00_0000_0000_00 = some .reserved14 ∧
    decodeTableWord 52 0xF_FF_FFFF_FFFF_FF = some .reserved15 := by decide
theorem test_word_wire_read : decodeTableWord 32 0xA0_03_12_34 = some (.wireRead 0xA0#8 0x12#8 0x34#8) := by decide
theorem test_word_wire_write : decodeTableWord 32 0xA0_6C_01_20 = some (.wireWrite 0xA0#8 0x01#8 0x20#8) := by decide
theorem test_word_wren : decodeTableWord 16 0xA0_96 = some (.wireWren 0xA0#8) := by decide
theorem test_word_wrdi : decodeTableWord 16 0xA0_91 = some (.wireWrdi 0xA0#8) := by decide
theorem test_word_rdsr : decodeTableWord 16 0xA0_05 = some (.wireRdsr 0xA0#8) := by decide
theorem test_word_wrsr : decodeTableWord 24 0xA0_6E_0C = some (.wireWrsr 0xA0#8 0x0C#8) := by decide
theorem test_words_one_byte :
    decodeTableWord 8 0x06 = some .crrd ∧ decodeTableWord 8 0x6D = some .eral ∧ decodeTableWord 8 0x67 = some .setal ∧
    decodeTableWord 8 0x55 = some .startHeader ∧ decodeTableWord 4 0x3 = some .bit1 ∧ decodeTableWord 4 0xC = some .bit0 := by
  decide
theorem test_unassigned_opcode : decode [0xA0#8, 0x97#8] = .error (.badOpcode 2 0x97#8) := by rfl
theorem test_request_too_wide : decodeTableWord 52 0x1_0_00_0000_0000_00 = none := by decide

/-! ## Machines for the tests -/

/-- An initialised idle engine with `IE = 1`, a buffer of 64 bytes, and the answers `script`. -/
def board (script : List Drive) : State :=
  { State.reset with
    line := { dir := .output, lvl := true }
    inited := true
    host := { ie := true, buf := [], bufSize := 64 }
    env := { script := script, samples := 0, moves := [] } }

/-- The same with the bytes DE AD BE EF in the buffer. -/
def boardFull (script : List Drive) : State :=
  { board script with host := { ie := true, buf := [(0, 0xDE#8), (1, 0xAD#8), (2, 0xBE#8), (3, 0xEF#8)], bufSize := 64 } }

/-- Answers of one frame: acknowledged; not acknowledged; a byte given by the slave and acknowledged. -/
def acked : List Drive := frameSamples quietByte true
def silent : List Drive := frameSamples quietByte false
def given (v : Byte) : List Drive := frameSamples (drivenByte v) true

/-- `n` acknowledged frames. -/
def ackedFrames (n : Nat) : List Drive := (List.replicate n acked).flatten

/-- A poll answered with a status byte: header, address, opcode, status. -/
def pollOf (v : Byte) : List Drive := ackedFrames 3 ++ given v

/-- The outcome is a next state with a property. -/
def holds (o : Host.Outcome State Fault Refusal) (p : State → Bool) : Bool :=
  match o with
  | .next t => p t
  | .fault _ => false
  | .refused _ => false

/-! ## One step an instruction -/

/-- V1. -/
theorem test_bit1 : holds (exec .bit1 (board [none, none])) (fun t => t.line.lvl && !t.slotE.sa && t.slotE.sb && observed t) = true := by
  decide
/-- V3, row 4: a released line held low decodes to 0. -/
theorem test_bit1_stuck_low :
    holds (exec .bit1 (dirOp .input (board [some false, some false]))) (fun t => !t.slotE.sa && !t.slotE.sb && !observed t) = true := by
  decide
/-- V2. -/
theorem test_bit0 : holds (exec .bit0 (board [none, none])) (fun t => !t.line.lvl && t.slotE.sa && !t.slotE.sb && !observed t) = true := by
  decide
/-- V22: 84 micro-operations; the slave that drives the ignored slot leaves `ACK = 1`. -/
theorem test_start_header : holds (exec .startHeader (board acked)) (fun t =>
    t.frame.ack && (t.trace.length == 84) && (t.trace.getLast? == some (.lvl false)) && (t.frame.shr == 0x00#8)) = true := by
  decide
/-- V22: without it `ACK = 0` and the header completes all the same. -/
theorem test_start_header_silent : holds (exec .startHeader (board silent)) (fun t =>
    !t.frame.ack && t.line.lvl && (t.line.dir == .output)) = true := by decide
/-- V11, V30: two frames, the second with NoMAK. -/
theorem test_wren : holds (exec (.wireWren 0xA0#8) (board (ackedFrames 2))) (fun t =>
    t.seq.ok && !t.frame.makb && (t.trace.length == 164) && (t.desc.cmd.c1 == 0x96#8)) = true := by decide
/-- The opcode frame left without acknowledgment. -/
theorem test_wren_nosak : holds (exec (.wireWren 0xA0#8) (board (acked ++ silent))) (fun t =>
    !t.seq.ok && (t.seq.byteidx == 1#16)) = true := by decide
theorem test_wrdi : holds (exec (.wireWrdi 0xA0#8) (board (ackedFrames 2))) (fun t =>
    t.seq.ok && !t.frame.makb && (t.desc.cmd.c1 == 0x91#8)) = true := by decide
/-- An absent device is noticed at the address frame (R303). -/
theorem test_wrdi_absent : holds (exec (.wireWrdi 0xA0#8) (board silent)) (fun t =>
    !t.seq.ok && (t.trace.length == 82) && t.frame.makb) = true := by decide
theorem test_rdsr : holds (exec (.wireRdsr 0xA0#8) (board (ackedFrames 2 ++ given 0x81#8))) (fun t =>
    t.seq.ok && (t.res.statusR == 0x81#8) && !t.frame.makb) = true := by decide
/-- V14: a slave that falls silent after `1 0 1` gives 0xA0 and no acknowledgment; the byte is stored. -/
theorem test_rdsr_falls_silent : holds (exec (.wireRdsr 0xA0#8)
    (board (ackedFrames 2 ++ [some false, some true, some true, some false, some false, some true] ++ List.replicate 14 none)))
    (fun t => !t.seq.ok && (t.res.statusR == 0xA0#8)) = true := by decide
theorem test_wrsr : holds (exec (.wireWrsr 0xA0#8 0x0C#8) (board (ackedFrames 3))) (fun t =>
    t.seq.ok && !t.frame.makb && (t.trace.length == 246) && (t.desc.cmd.c2 == 0x0C#8)) = true := by decide
/-- V12, V16: two received frames, M then N. -/
theorem test_wire_read : holds (exec (.wireRead 0xA0#8 0x00#8 0x03#8)
    { board (ackedFrames 4 ++ given 0xDE#8 ++ given 0xAD#8) with opnd := { State.reset.opnd with length := 2#16 } })
    (fun t => t.seq.ok && (t.host.buf == [(0, 0xDE#8), (1, 0xAD#8)]) && (t.trace.length == 496)) = true := by decide
/-- V17: SAK withheld in frame 1: 164 micro-operations. -/
theorem test_wire_write_nosak : holds (exec (.wireWrite 0xA0#8 0x00#8 0x10#8) (boardFull (acked ++ silent)))
    (fun t => !t.seq.ok && (t.trace.length == 164)) = true := by decide
/-- R210: with `LENGTH = 0` four frames, all with MAK. -/
theorem test_wire_write_empty : holds (exec (.wireWrite 0xA0#8 0x00#8 0x10#8) (boardFull (ackedFrames 4)))
    (fun t => t.seq.ok && t.frame.makb && (t.trace.length == 328)) = true := by decide
theorem test_reserved_opcodes : exec .crrd (board []) = .refused (.reservedOpcode 0x06#8) ∧
    exec .eral (board []) = .refused (.reservedOpcode 0x6D#8) ∧ exec .setal (board []) = .refused (.reservedOpcode 0x67#8) :=
  ⟨rfl, rfl, rfl⟩
/-- R193: after reset the trace is `LVL(1), DIR(out)`. -/
theorem test_init : holds (exec .init State.reset) (fun t =>
    (t.trace == [.dir .output, .lvl true]) && t.inited && t.res.success && t.res.done && !t.res.busy) = true := by decide
/-- V32: 254 micro-operations; V33: `IE` as before. -/
theorem test_enable_write : holds (exec (.enableWrite 0xA0#8) (board (ackedFrames 3))) (fun t =>
    t.res.success && t.host.ie && (t.trace.length == 254)) = true := by decide
theorem test_enable_write_absent : holds (exec (.enableWrite 0xA0#8) (board (acked ++ silent))) (fun t =>
    !t.res.success && t.res.done && t.host.ie && (t.trace.head? == some (.csExit true))) = true := by decide
theorem test_disable_write : holds (exec (.disableWrite 0xA0#8) (board (ackedFrames 3))) (fun t =>
    t.res.success && (t.desc.cmd.c1 == 0x91#8) && (t.trace.length == 254)) = true := by decide
/-- V32: 338 micro-operations. -/
theorem test_read_status : holds (exec (.readStatus 0xA0#8) (board (ackedFrames 3 ++ given 0x01#8))) (fun t =>
    t.res.success && (t.res.statusR == 0x01#8) && (t.trace.length == 338)) = true := by decide
/-- V32: 336 micro-operations. -/
theorem test_write_status : holds (exec (.writeStatus 0xA0#8 0x0C#8) (board (ackedFrames 4))) (fun t =>
    t.res.success && (t.trace.length == 336)) = true := by decide
/-- S3, V32: four bytes read, 754 micro-operations. -/
theorem test_read : holds (exec (.read 0xA0#8 0x0003#16 4#16)
    (board (ackedFrames 5 ++ given 0xDE#8 ++ given 0xAD#8 ++ given 0xBE#8 ++ given 0xEF#8))) (fun t =>
    t.res.success && (t.host.buf == [(0, 0xDE#8), (1, 0xAD#8), (2, 0xBE#8), (3, 0xEF#8)]) && (t.trace.length == 754)) = true := by
  decide
/-- R211: before `init`, refused at once with an empty trace. -/
theorem test_read_before_init : holds (exec (.read 0xA0#8 0x0003#16 4#16) State.reset) (fun t =>
    !t.res.success && t.res.done && (t.trace == [])) = true := by decide
/-- V32: 746 micro-operations. -/
theorem test_start_write : holds (exec (.startWrite 0xA0#8 0x0003#16 4#16) (boardFull (ackedFrames 9))) (fun t =>
    t.res.success && (t.trace.length == 746)) = true := by decide
/-- S2. -/
theorem test_start_write_crossing : holds (exec (.startWrite 0xA0#8 0x000D#16 4#16) (boardFull [])) (fun t =>
    !t.res.success && t.res.done && (t.trace == [])) = true := by decide
/-- S5 with `M = 1`, V32: 4 + 336 · 2 micro-operations. -/
theorem test_await : holds (exec (.awaitWriteComplete 0xA0#8) (board (pollOf 0x01#8 ++ pollOf 0x00#8))) (fun t =>
    t.res.success && (t.res.statusR == 0x00#8) && (t.trace.length == 676) && (exchanges t.trace == 2)) = true := by decide
/-- R278: while the device reports a write in progress the operation does not complete. -/
theorem test_await_busy : holds (exec (.awaitWriteComplete 0xA0#8) (board (pollOf 0x01#8))) (fun t =>
    t.res.busy && !t.res.done && (t.seq.phase == .gap) && t.host.ie) = true := by decide
/-- S1, R228: two chunks of two bytes. -/
theorem test_simple_write : holds (exec (.simpleWrite 0xA0#8 0x001E#16 4#16)
    (boardFull (ackedFrames 10 ++ pollOf 0x00#8 ++ ackedFrames 10 ++ pollOf 0x00#8))) (fun t =>
    t.res.success && (exchanges t.trace == 6) && (t.orch.curAddr == 0x0022#16) && (t.orch.rem == 0#16)) = true := by decide
/-- R224: the second chunk's `enable_write` fails. -/
theorem test_simple_write_second_chunk_fails : holds (exec (.simpleWrite 0xA0#8 0x001E#16 4#16)
    (boardFull (ackedFrames 10 ++ pollOf 0x00#8 ++ acked ++ silent))) (fun t =>
    !t.res.success && (exchanges t.trace == 4) && (t.orch.curAddr == 0x0020#16) && (t.orch.rem == 2#16)) = true := by decide
/-- R115. -/
theorem test_reserved_requests : [Instr.reserved9, .reserved10, .reserved11, .reserved12, .reserved13, .reserved14, .reserved15].all
    (fun i => holds (exec i (board [])) fun t => !t.res.success && t.res.done && (t.trace == [])) = true := by decide

/-! ## Steps from a placed word -/

/-- From reset, the word of `init` runs as the next step. -/
theorem test_placed_init : holds (step (State.reset.withFetchWord 52 0)) (fun t => t.inited && t.res.done) = true := by decide
theorem test_placed_wren : holds (step ((board (ackedFrames 2)).withFetchWord 16 0xA096)) (fun t =>
    t.seq.ok && (t.seq.phase == .csExit)) = true := by decide
theorem test_placed_slot : holds (step ((board [none, none]).withFetchWord 4 0xC)) (fun t =>
    !t.line.lvl && (t.frame.slot == 9)) = true := by decide
theorem test_placed_eral : step (State.reset.withFetchWord 8 0x6D) = .refused (.reservedOpcode 0x6D#8) := by rfl
/-- R62: the host's write while busy. -/
theorem test_write_while_busy : step { board [] with
    res := { State.reset.res with busy := true }, env := { script := [], samples := 0, moves := [.writeIe false] } } =
    .refused .hostWriteWhileBusy := by rfl

/-- R233: START alone leads to `DISPATCH`, nothing else done yet. -/
theorem test_start_pulse : holds (step { board [] with env := { script := [], samples := 0, moves := [.startPulse] } })
    (fun t => t.res.busy && (t.seq.phase == .dispatch) && (t.trace == [])) = true := by decide
/-- An engine in `read`, three quarters into data slot 2 of the second received frame: the host's `IE` is saved, one byte is
stored. -/
def midRead (moves : List HostMove) : State :=
  let s : State := { board [] with opnd := present (.read 0xA0#8 0x0003#16 4#16) State.reset.opnd }
  { setDesc (descRead s 0xA0#8 0x00#8 0x03#8) s with
    line := { dir := .input, lvl := true }
    slotE := { sa := true, sb := true, qtr := 3, tmr := 0 }
    frame := { s.frame with slot := 2 }
    res := { s.res with busy := true }
    seq := { s.seq with phase := .rxFrame, curop := .op .read, byteidx := 1, ok := true }
    savedIe := true
    host := { ie := false, buf := [(0, 0xDE#8)], bufSize := 64 }
    env := { script := [], samples := 0, moves := moves } }
/-- R152: a tick inside a slot is one quarter; after the last the next slot stands. -/
theorem test_tick_quarter : holds (step (midRead [.tick])) (fun t =>
    t.res.busy && (t.slotE.qtr == 0) && (t.frame.slot == 3) && (t.seq.phase == .rxFrame)) = true := by decide
/-- R290, U16: reset there leaves `IE` at 0 and the buffer half filled, with no `CS_EXIT`; the line is released, the engine idle. -/
theorem test_reset_inside_read : holds (step (midRead [.rst])) (fun t =>
    !t.host.ie && (t.host.buf == [(0, 0xDE#8)]) && !t.res.busy && !t.inited && (t.seq.phase == .idle) &&
    (t.slotE.qtr == 0) && (t.line.dir == .input) && t.line.lvl && (t.trace == [])) = true := by decide

/-! ## The responder answers a session as the scripts above do (20_memory.md R88 to R97) -/

/-- A device at 0xA0 that is idle. -/
def device : Dev where
  mem := [(3, 0xDE#8)]
  fill := 0xFF#8
  size := 256
  devaddr := 0xA0#8
  present := true
  wipPolls := 0
  writePolls := 2
  wel := false
  srHi := 0
  stage := .silent
  a := 0
  page := []
  withhold := none

theorem test_responder_read : holds (exec (.read 0xA0#8 0x0003#16 2#16) (board
    (devSession device (sentFrames false [0xA0#8, 0x03#8, 0x00#8, 0x03#8] ++ receivedFrames 2)).2)) (fun t =>
    t.res.success && (t.host.buf == [(0, 0xDE#8), (1, 0xFF#8)])) = true := by decide
theorem test_responder_other_address : holds (exec (.enableWrite 0x5A#8) (board
    (devSession device (sentFrames true [0x5A#8, 0x96#8])).2)) (fun t => !t.res.success) = true := by decide

/-- R90: only the frame 0x55 with MAK is the header, and only after the header hold. -/
theorem test_responder_header (d : Dev) (b : Byte) (mak : Bool) :
    (devTake (devHold (devLead d)) b mak).stage = .address ↔ b = 0x55#8 ∧ mak = true := by
  by_cases h : b = 0x55#8 ∧ mak = true <;> simp [devTake, devHold, devLead, Config.startHeader, h]
theorem test_responder_without_hold (d : Dev) (b : Byte) (mak : Bool) : (devTake (devLead d) b mak).stage = .hold := rfl
/-- R90: after 0x55 with NoMAK the device address is left without acknowledgment; with MAK it is acknowledged. -/
theorem test_responder_header_mak :
    (devFrame (devTake (devHold (devLead device)) 0x55#8 false) (.sent 0xA0#8 true)).2.2 = false ∧
    (devFrame (devTake (devHold (devLead device)) 0x55#8 true) (.sent 0xA0#8 true)).2.2 = true := by decide
/-- R92: a READ whose low address byte carries NoMAK drives no byte after it; with MAK it drives the byte at 3. -/
theorem test_responder_read_mak :
    (devSession device (sentFrames true [0xA0#8, 0x03#8, 0x00#8, 0x03#8] ++ receivedFrames 1)).2.drop 100 =
      frameSamples quietByte false ∧
    (devSession device (sentFrames false [0xA0#8, 0x03#8, 0x00#8, 0x03#8] ++ receivedFrames 1)).2.drop 100 =
      frameSamples (drivenByte 0xDE#8) true := by decide

/-- R91, R93 to R96: a page written with the latch set, then a busy status; a page withheld by the clear latch. -/
theorem test_responder_write :
    let frames := sentFrames true [0xA0#8, 0x6C#8, 0x00#8, 0x10#8, 0x11#8, 0x22#8]
    let w := (devSession (devSession device (sentFrames true [0xA0#8, 0x96#8])).1 frames).1
    (devRead w 0x10 = 0x11#8 ∧ devRead w 0x11 = 0x22#8 ∧ w.wipPolls = 2 ∧ w.wel = false) ∧
    devRead (devSession device frames).1 0x10 = 0xFF#8 ∧
    (devSession w (sentFrames false [0xA0#8, 0x05#8] ++ receivedFrames 1)).2.drop 60 =
      frameSamples (drivenByte 0x01#8) true := by decide

/-! ## Witnesses: for each statement with hypotheses, a state and operands that meet them all -/

/-- `board` is ready, whatever its answers. -/
theorem board_ready (script : List Drive) : (board script).ready := ⟨rfl, rfl⟩
theorem boardFull_ready (script : List Drive) : (boardFull script).ready := ⟨rfl, rfl⟩

/-- The same with a register field changed; the engine in a phase; the host's moves. -/
def inPhase (p : Phase) (s : State) : State :=
  { s with res := { s.res with busy := true }, seq := { s.seq with phase := p, ok := true } }
def withMoves (moves : List HostMove) (s : State) : State := { s with env := { s.env with moves := moves } }
def busy (s : State) : State := { s with res := { s.res with busy := true } }

theorem witness_TableRowsDecode :
    (⟨"READ", 32, 0x00FF0000, 0x00030000⟩ : TableRow) ∈ tableRows ∧ 0xA0031234 < 2 ^ 32 ∧
    (⟨"READ", 32, 0x00FF0000, 0x00030000⟩ : TableRow).hit 0xA0031234 = true ∧
    (⟨"BIT1", 4, 0xF, 0x3⟩ : TableRow) ∈ tableRows ∧ (⟨"BIT1", 4, 0xF, 0x3⟩ : TableRow).hit 0xC = false := by decide
theorem witness_OperandFields :
    0xF_FF_FFFF_FFFF_FF < 2 ^ 52 ∧ 0xFF03FFFF < 2 ^ 32 ∧ 0xFF03FFFF / 2 ^ 16 % 256 = 0x03 ∧ 0x006C0000 / 2 ^ 16 % 256 = 0x6C ∧
    0xFF6EFF < 2 ^ 24 ∧ 0xFF6EFF / 2 ^ 8 % 256 = 0x6E ∧ 0xFF96 < 2 ^ 16 ∧ 0xFF96 % 256 = 0x96 ∧ 0x0091 % 256 = 0x91 ∧
    0x0005 % 256 = 0x05 := by decide
theorem witness_UnassignedRejected :
    ([] : List Byte).length = 0 ∧ (List.replicate 5 0#8).length = 5 ∧ (List.replicate 6 0#8).length = 6 ∧
    8 ≤ (List.replicate 8 0#8).length := by decide
theorem witness_FetchPresented : Instr.init.isRequest = true ∧ Instr.reserved15.isRequest = true := by decide
theorem witness_StepRunsRequest :
    let s := withMoves [.start] { board [] with opnd := present (.read 0xA0#8 3#16 4#16) State.reset.opnd }
    s.env.moves = .start :: [] ∧ s.res.busy = false ∧ fetchRequest s = .ok (.read 0xA0#8 3#16 4#16) ∧
    (busy s).env.moves = .start :: [] ∧ (busy s).res.busy = true := ⟨rfl, rfl, rfl, rfl, rfl⟩
theorem witness_StepRunsWireInstruction :
    let s := (board []).withFetchWord 16 0xA096
    let h := (board []).withFetchWord 8 0x55
    let b := (board []).withFetchWord 4 0xC
    (nextMove s = .wait ∧ s.seq.phase = .cmdFrame ∧ atCommandStart s = true ∧ fetchWire s = some (.wireWren 0xA0#8)) ∧
    (nextMove h = .wait ∧ h.seq.phase = .hdrHold) ∧
    (nextMove b = .wait ∧ isFramePhase b.seq.phase = true ∧ b.slotE.qtr = 0 ∧ b.seq.phase ≠ .cmdFrame) := by decide
theorem witness_StepRunsWireInstruction_other_bytes :
    let s := (board []).withFetchWord 16 0xA096
    let u := setDesc { s.desc with cmd := { s.desc.cmd with c1 := 0x97#8 } } s
    nextMove u = .wait ∧ isFramePhase u.seq.phase = true ∧ u.slotE.qtr = 0 ∧ fetchWire u = none := by decide
theorem witness_PlacedWordRuns :
    decodeTableWord 52 0 = some .init ∧ decodeTableWord 16 0xA096 = some (.wireWren 0xA0#8) ∧
    decodeTableWord 8 0x06 = some .crrd ∧ decodeTableWord 8 0x55 = some .startHeader ∧ decodeTableWord 4 0x3 = some .bit1 := by
  decide
theorem witness_HostMoves :
    (withMoves [.writeReg .opsel 3] (board [])).env.moves = .writeReg .opsel 3 :: [] ∧ (board []).res.busy = false ∧
    (withMoves [.writeIe true] (board [])).env.moves = .writeIe true :: [] ∧
    (withMoves [.writeBuf 63 0xFF#8] (board [])).env.moves = .writeBuf 63 0xFF#8 :: [] ∧ 63 < (board []).host.bufSize ∧
    (busy (withMoves [.writeIe true] (board []))).res.busy = true ∧
    (withMoves [.rst] (board [])).env.moves = .rst :: [] ∧
    (withMoves [.startPulse] (board [])).env.moves = .startPulse :: [] ∧
    (busy (withMoves [.startPulse] (board []))).res.busy = true ∧
    (withMoves [.tick] (board [])).env.moves = .tick :: [] ∧
    nextMove (board []) = .wait ∧ (board []).seq.phase = .idle := by decide
theorem witness_ResetValues : envDrive { script := [none], samples := 0, moves := [] } 0 = none := by decide
theorem witness_DirectionOp : driveAt (board [none]) 0 = none := by decide
theorem witness_LevelAndSample :
    (board [none]).line.dir = .output ∧ driveAt (board [none]) 0 = none ∧
    driveAt (board [some true]) 0 = some (board [some true]).line.lvl ∧
    (dirOp .input (board [none])).line.dir = .input ∧ driveAt (dirOp .input (board [none])) 0 = none ∧
    driveAt (dirOp .input (board [some false])) 0 = some false := by decide
theorem witness_SlotCompletes :
    (dirOp .input (board [])).line.dir = .input ∧ (board []).line.dir = .output ∧
    driveAt (board [none, some true]) 0 = none ∧ driveAt (board [some (!true)]) 0 = some (!true) ∧
    driveAt (board [none, none]) 1 = none ∧ driveAt (board [none, some true]) 1 = some true := by decide
theorem witness_SlotDecoding :
    (dirOp .input (board [])).line.dir = .input ∧
    holds (exec .bit1 (dirOp .input (board [some false, none]))) (fun t => !t.slotE.sa && t.slotE.sb) = true ∧
    holds (exec .bit1 (dirOp .input (board [none, some false]))) (fun t => t.slotE.sa && !t.slotE.sb) = true ∧
    holds (exec .bit1 (dirOp .input (board [none, none]))) (fun t => t.slotE.sa && t.slotE.sb) = true ∧
    holds (exec .bit1 (dirOp .input (board [some false, some false]))) (fun t => !t.slotE.sa && !t.slotE.sb) = true := by
  decide
theorem witness_SendRun : ∃ source : State → Nat → Byte,
    (source = fun u i => cmdByte u.desc.cmd i) ∨ (source = fun u i => memRead u.host.buf (u.desc.pbase.toNat + i)) :=
  ⟨_, .inl rfl⟩
theorem witness_ReceivedRunStored : 65536 ≤ 65536 ∧ (board []).host.buf.wf = true ∧ (boardFull []).host.buf.wf = true ∧
    (setDesc (descRead (board []) 0xA0#8 0#8 0#8) (board [])).desc.pdir = .rxBuf ∧
    (setDesc (descRdsr (board []) 0xA0#8) (board [])).desc.pdir = .rxStatus ∧ (board []).desc.pdir = .none ∧
    (setDesc (descWrite (board []) 0xA0#8 0#8 0#8) (board [])).desc.pdir = .tx := by decide
theorem witness_InterCommandGap : (board []).line.lvl = true ∧ (enter .await (board [])).desc.lead = .gap := by decide
theorem witness_HeaderAckIgnored :
    (List.replicate 18 (none : Drive)).length = 18 ∧ (enter .enableWrite (board [])).desc.cmdlen ≠ 0 := by decide
theorem witness_WireRead : (boardFull []).host.buf.wf = true ∧ (board []).opnd.length.toNat ≤ (board []).host.bufSize ∧
    ({ board [] with opnd := { State.reset.opnd with length := 64#16 } } : State).opnd.length.toNat ≤ (board []).host.bufSize := by
  decide
theorem witness_WireWrite :
    let s : State := { board [] with
      opnd := { State.reset.opnd with opsel := 8#4 }, orch := { State.reset.orch with curPtr := 48#16, chunk := 16#5 } }
    16#16 = (if s.opnd.opsel = 8#4 then s.orch.chunk.setWidth 16 else s.opnd.length) ∧
    s.orch.curPtr.toNat + (16#16 : Half).toNat ≤ s.host.bufSize ∧
    0#16 = (if (board []).opnd.opsel = 8#4 then (board []).orch.chunk.setWidth 16 else (board []).opnd.length) := by decide
theorem witness_BufferRangeRefused :
    let s : State := { board [] with opnd := { State.reset.opnd with length := 65#16 } }
    s.host.bufSize < s.opnd.length.toNat ∧ s.host.bufSize < s.orch.curPtr.toNat + (writeCount s).toNat ∧
    s.host.bufSize < (65#16 : Half).toNat := by decide
theorem witness_BufferRangeRefused_operations :
    let s : State := { board [] with host := { ie := true, buf := [], bufSize := 3 } }
    s.ready ∧ s.host.bufSize < (4#16 : Half).toNat ∧ (0x000C#16 : Half).toNat % 16 + (4#16 : Half).toNat ≤ 16 :=
  ⟨⟨rfl, rfl⟩, by decide, by decide⟩
theorem witness_InitResult : State.reset.res.busy = false := by decide
theorem witness_EnableWrite : (board (ackedFrames 3)).ready ∧ allAcked (board (ackedFrames 3)) 1 2 = true :=
  ⟨board_ready _, by decide⟩
theorem witness_DisableWrite : (board (acked ++ silent)).ready ∧ allAcked (board (acked ++ silent)) 1 2 = false :=
  ⟨board_ready _, by decide⟩
theorem witness_ReadStatus : (board (pollOf 0x01#8)).ready ∧ allAcked (board (pollOf 0x01#8)) 1 2 = true :=
  ⟨board_ready _, by decide⟩
theorem witness_WriteStatus : (board (ackedFrames 4)).ready := board_ready _
/-- A read that succeeds, and one whose second reception is the last to run, over a buffer that holds other bytes. -/
theorem witness_Read : (board (ackedFrames 5 ++ given 0xDE#8)).ready ∧ (64#16 : Half).toNat ≤ (board []).host.bufSize ∧
    (board []).host.buf.wf = true ∧
    holds (exec (.read 0xA0#8 3#16 1#16) (board (ackedFrames 5 ++ given 0xDE#8))) (fun t => t.res.success) = true ∧
    let f := boardFull (ackedFrames 5 ++ given 0x11#8 ++ frameSamples (drivenByte 0x00#8) false)
    f.ready ∧ f.host.buf.wf = true ∧ framesRun f 1 (4 + 3) = 6 ∧
    holds (exec (.read 0xA0#8 3#16 3#16) f) (fun t =>
      !t.res.success && (t.host.buf == [(0, 0x11#8), (2, 0xBE#8), (3, 0xEF#8)])) = true :=
  ⟨board_ready _, by decide, by decide, by decide, boardFull_ready _, by decide, by decide, by decide⟩
theorem witness_StartWrite : (boardFull []).ready ∧ (0x000C#16 : Half).toNat % 16 + (4#16 : Half).toNat ≤ 16 ∧
    (0x0010#16 : Half).toNat % 16 + (16#16 : Half).toNat ≤ 16 ∧ (16#16 : Half).toNat ≤ (boardFull []).host.bufSize :=
  ⟨boardFull_ready _, by decide, by decide, by decide⟩
theorem witness_PageViolation : (boardFull []).ready ∧ 16 < (0x000D#16 : Half).toNat % 16 + (4#16 : Half).toNat ∧
    16 < (0x0010#16 : Half).toNat % 16 + (17#16 : Half).toNat := ⟨boardFull_ready _, by decide, by decide⟩
theorem witness_RefusedRequests :
    Instr.reserved9.isRequest = true ∧ Instr.reserved9.opselAssigned = false ∧ (board []).res.busy = false ∧
    (Instr.read 0xA0#8 0#16 0#16).isRequest = true ∧ Instr.read 0xA0#8 0#16 0#16 ≠ .init ∧ State.reset.inited = false ∧
    State.reset.res.busy = false ∧ (busy (board [])).res.busy = true := by decide
/-- A request in a state meets the hypotheses of `RequestsAnswer`. -/
def answerable (i : Instr) (s : State) : Prop :=
  i.isRequest = true ∧ s.res.busy = false ∧
  ∀ dev offset length, i = .read dev offset length ∨ i = .startWrite dev offset length ∨ i = .simpleWrite dev offset length →
    length.toNat ≤ s.host.bufSize
/-- A read, a paged write and a page crossing that fit the buffer; a reserved code; a poll before `init`; `init`; and a busy poll. -/
theorem witness_RequestsAnswer :
    answerable (.read 0xA0#8 0#16 64#16) (board []) ∧ answerable (.simpleWrite 0xA0#8 0x001E#16 64#16) (boardFull []) ∧
    answerable (.startWrite 0xA0#8 0x000D#16 4#16) (boardFull []) ∧ answerable .reserved9 (board []) ∧
    (answerable (.awaitWriteComplete 0xA0#8) { board [] with inited := false }) ∧ answerable .init State.reset ∧
    answerable (.awaitWriteComplete 0xA0#8) (board (pollOf 0x01#8)) := by
  refine ⟨⟨rfl, rfl, ?_⟩, ⟨rfl, rfl, ?_⟩, ⟨rfl, rfl, ?_⟩, ⟨rfl, rfl, ?_⟩, ⟨rfl, rfl, ?_⟩, ⟨rfl, rfl, ?_⟩, rfl, rfl, ?_⟩ <;>
  · rintro dev offset length (h | h | h) <;> cases h <;> decide
/-- One busy poll, then one that is not; and a poll whose address frame is left without acknowledgment. -/
theorem witness_AwaitEnds :
    let s := board (pollOf 0x01#8 ++ pollOf 0x00#8)
    let f := board (acked ++ silent)
    (s.ready ∧ 80 * 1 < s.env.script.length ∧ (∀ j < 1, pollAcked s j = true ∧ (pollStatus s j).getLsbD 0 = true) ∧
      pollAcked s 1 = true ∧ (pollStatus s 1).getLsbD 0 = false) ∧
    (f.ready ∧ pollAcked f 0 = false) := by
  refine ⟨⟨board_ready _, by decide, by decide, by decide, by decide⟩, board_ready _, by decide⟩
/-- Two busy polls that use the script up, and one. -/
theorem witness_AwaitWaits :
    let s := board (pollOf 0x01#8 ++ pollOf 0xFF#8)
    let u := board (pollOf 0x01#8)
    (s.ready ∧ (2 = 1 ∨ (2 ≠ 0 ∧ 80 * (2 - 1) < s.env.script.length)) ∧ s.env.script.length ≤ 80 * 2 ∧
      ∀ j < 2, pollAcked s j = true ∧ (pollStatus s j).getLsbD 0 = true) ∧
    (u.ready ∧ (1 = 1 ∨ (1 ≠ 0 ∧ 80 * (1 - 1) < u.env.script.length)) ∧ u.env.script.length ≤ 80 * 1 ∧
      ∀ j < 1, pollAcked u j = true ∧ (pollStatus u j).getLsbD 0 = true) :=
  ⟨⟨board_ready _, .inr ⟨by decide, by decide⟩, by decide, by decide⟩, board_ready _, .inl rfl, by decide, by decide⟩
theorem witness_PollCycle :
    let s := inPhase .gap (enter .await (board (pollOf 0x01#8)))
    s.env.moves = [] ∧ s.seq.phase = .gap ∧ s.seq.curop = .op .await ∧ s.slotE.qtr = 0 ∧
    s.desc = { descRdsr s s.opnd.devaddr with lead := .gap } ∧ pollAcked s 0 = true ∧ (pollStatus s 0).getLsbD 0 = true := by
  decide
theorem witness_ChunkLaw : (1#16 : Half) ≠ 0 ∧ takeChunk { board [] with
    orch := { State.reset.orch with rem := 1#16, curAddr := 0xFFFF#16 } } ≠ board [] := by decide
theorem witness_ChunksCover : (4#16 : Half) ≠ 0 ∧ 0 + 1 < (chunksOf 0x001E#16 4#16).length ∧
    (chunksOf 0x001E#16 4#16).head? = some { addr := 0x001E#16, ptr := 0, len := 2 } := by decide
theorem witness_SimpleWriteEmpty : (board []).ready := board_ready _
/-- Two chunks, the second with one busy poll. -/
theorem witness_SimpleWriteSucceeds :
    let s := boardFull (ackedFrames 10 ++ pollOf 0x00#8 ++ ackedFrames 10 ++ pollOf 0x01#8 ++ pollOf 0x00#8)
    let cs : List Polled := [({ addr := 0x001E#16, ptr := 0, len := 2 }, 0), ({ addr := 0x0020#16, ptr := 2, len := 2 }, 1)]
    s.ready ∧ (4#16 : Half).toNat ≤ s.host.bufSize ∧ (4#16 : Half) ≠ 0 ∧ cs.map Prod.fst = chunksOf 0x001E#16 4#16 ∧
    chunksAnswered s 0 cs := by
  refine ⟨boardFull_ready _, by decide, by decide, by decide, ?_⟩
  simp only [chunksAnswered, chunkAnswered]
  decide
/-- The first chunk's `enable_write`, `start_write` and poll left without acknowledgment. -/
theorem witness_SimpleWriteFails :
    let c : Polled := ({ addr := 0x001E#16, ptr := 0, len := 2 }, 0)
    let later : List Chunk := [{ addr := 0x0020#16, ptr := 2, len := 2 }]
    let e := boardFull (acked ++ silent)
    let w := boardFull (ackedFrames 9 ++ silent)
    let p := boardFull (ackedFrames 12 ++ silent)
    ([] : List Polled).map Prod.fst ++ c.1 :: later = chunksOf 0x001E#16 4#16 ∧ (4#16 : Half).toNat ≤ e.host.bufSize ∧
    (e.ready ∧ chunksAnswered e 0 [] ∧ allAcked e (0 + 1) 2 = false) ∧
    (w.ready ∧ allAcked w (0 + 1) 2 = true ∧ allAcked w (0 + 4) (4 + c.1.len) = false) ∧
    (p.ready ∧ allAcked p (0 + 1) 2 = true ∧ allAcked p (0 + 4) (4 + c.1.len) = true ∧
      allAcked p (0 + 8 + c.1.len + 4 * c.2 + 1) 3 = false) :=
  ⟨by decide, by decide, ⟨boardFull_ready _, trivial, by decide⟩, ⟨boardFull_ready _, by decide, by decide⟩,
    boardFull_ready _, by decide, by decide, by decide⟩
/-- The same after a chunk that succeeded: the second chunk's `enable_write`, `start_write` and, after a busy poll, poll. -/
theorem witness_SimpleWriteFails_second_chunk :
    let first : List Polled := [({ addr := 0x001E#16, ptr := 0, len := 2 }, 0)]
    let c : Polled := ({ addr := 0x0020#16, ptr := 2, len := 2 }, 1)
    let done := ackedFrames 10 ++ pollOf 0x00#8
    let e := boardFull (done ++ acked ++ silent)
    let w := boardFull (done ++ ackedFrames 8 ++ silent)
    let p := boardFull (done ++ ackedFrames 10 ++ pollOf 0x01#8 ++ acked ++ silent)
    first.map Prod.fst ++ c.1 :: [] = chunksOf 0x001E#16 4#16 ∧ framesOf first = 14 ∧
    (e.ready ∧ chunksAnswered e 0 first ∧ allAcked e (14 + 1) 2 = false) ∧
    (w.ready ∧ chunksAnswered w 0 first ∧ allAcked w (14 + 1) 2 = true ∧ allAcked w (14 + 4) (4 + c.1.len) = false) ∧
    (p.ready ∧ chunksAnswered p 0 first ∧ allAcked p (14 + 1) 2 = true ∧ allAcked p (14 + 4) (4 + c.1.len) = true ∧
      (∀ j < c.2, allAcked p (14 + 8 + c.1.len + 4 * j + 1) 3 = true ∧
        (byteAt p (20 * (14 + 8 + c.1.len + 4 * j + 3))).getLsbD 0 = true) ∧
      20 * (14 + 8 + c.1.len + 4 * c.2) < p.env.script.length ∧
      allAcked p (14 + 8 + c.1.len + 4 * c.2 + 1) 3 = false) := by
  refine ⟨by decide, by decide, ⟨boardFull_ready _, ?_, by decide⟩, ⟨boardFull_ready _, ?_, by decide, by decide⟩,
    boardFull_ready _, ?_, by decide, by decide, by decide, by decide, by decide⟩ <;>
  · simp only [chunksAnswered, chunkAnswered]
    decide
theorem witness_SequencerAgrees : Instr.init.isRequest = true ∧ State.reset.res.busy = false ∧ State.reset.slotE.qtr = 0 := by
  decide

/-- An idle, initialised engine meets the invariant. -/
theorem board_inv (script : List Drive) : (board script).Inv where
  handshake := by simp [State.handshake, board, State.reset]
  initFirst := by simp [State.initFirst, board]
  slotsRest := by simp [State.slotsRest, board, State.reset]
  lineDriven := by simp [State.lineDriven, State.listening, isFramePhase, board, State.reset]
  slotLevel := by simp [State.slotLevel, isFramePhase, board, State.reset]
  lineHigh := by simp [State.lineHigh, board]
  exchangeMasked := by simp [State.exchangeMasked, inCriticalSection, board, State.reset]
  descriptorLoaded := by simp [State.descriptorLoaded, descriptorInUse, board, State.reset]
  payloadAdmitted := by simp [State.payloadAdmitted, descriptorInUse, board, State.reset]
  bufferForm := by simp [State.bufferForm, board, Memory.wf, memWfFrom]
  countersInRange := by simp [State.countersInRange, board, State.reset]
  chunksInStep := by simp [State.chunksInStep, pagedPhase, board, State.reset]
  okWhileRunning := by simp [State.okWhileRunning, board, State.reset]

/-- An engine between two busy polls. -/
def polling (script : List Drive) : State :=
  let s := inPhase .gap (enter .await (board script))
  { s with opnd := { s.opnd with opsel := 7#4 } }

/-- And it meets the invariant. -/
theorem polling_inv (script : List Drive) : (polling script).Inv where
  handshake := by simp [State.handshake, polling, inPhase, enter, board, State.reset, setCurop, setDesc]
  initFirst := by simp [State.initFirst, polling, inPhase, enter, board, setCurop, setDesc]
  slotsRest := by simp [State.slotsRest, polling, inPhase, enter, board, State.reset, setCurop, setDesc]
  lineDriven := by
    simp [State.lineDriven, State.listening, isFramePhase, polling, inPhase, enter, board, setCurop, setDesc]
  slotLevel := by simp [State.slotLevel, isFramePhase, polling, inPhase, enter, setCurop, setDesc]
  lineHigh := by simp [State.lineHigh, polling, inPhase, enter, board, setCurop, setDesc]
  exchangeMasked := by simp [State.exchangeMasked, inCriticalSection, polling, inPhase]
  descriptorLoaded := fun _ => ⟨.await, rfl, rfl⟩
  payloadAdmitted := by
    simp [State.payloadAdmitted, polling, inPhase, enter, setCurop, setDesc, descRow, descRdsr, rowC2]
  bufferForm := by simp [State.bufferForm, polling, inPhase, enter, setCurop, setDesc, board, Memory.wf, memWfFrom]
  countersInRange := by simp [State.countersInRange, polling, inPhase]
  chunksInStep := by simp [State.chunksInStep, polling, inPhase]
  okWhileRunning := by simp [State.okWhileRunning, polling, inPhase]

theorem witness_StepIsSequencerRun : (polling []).Inv ∧ nextMove (polling []) = .wait := ⟨polling_inv _, rfl⟩
theorem witness_HandshakeKept : ∃ s t : State, s.Inv ∧ step s = .next t := ⟨polling [], _, polling_inv _, rfl⟩
theorem witness_LineKept : ∃ s t : State, s.Inv ∧ step s = .next t ∧ t.seq.phase = .csEnter :=
  ⟨polling [], _, polling_inv _, rfl, rfl⟩
theorem witness_ExchangeMasked : ∃ s t : State, s.Inv ∧ step s = .next t ∧ s.host.ie = true :=
  ⟨polling [], _, polling_inv _, rfl, rfl⟩
theorem witness_DescriptorKept : ∃ s t : State, s.Inv ∧ step s = .next t ∧ descriptorInUse t.seq.phase = true :=
  ⟨polling [], _, polling_inv _, rfl, rfl⟩
theorem witness_BufferKept : ∃ s t : State, s.Inv ∧ step s = .next t := ⟨polling [], _, polling_inv _, rfl⟩
theorem witness_ChunksKept : ∃ s t : State, s.Inv ∧ step s = .next t := ⟨polling [], _, polling_inv _, rfl⟩
theorem witness_EngineGoesOn : (polling []).Inv ∧ nextMove (polling []) = .wait ∧ (board []).Inv :=
  ⟨polling_inv _, rfl, board_inv _⟩
theorem witness_StepHistory : ∃ t, step (polling []) = .next t ∧ (polling []).inited = true ∧
    nextMove (polling []) ≠ .rst ∧ nextMove (polling []) = .wait := ⟨_, rfl, rfl, by decide, rfl⟩
theorem witness_Durations : (board (ackedFrames 3)).ready ∧
    holds (exec (.enableWrite 0xA0#8) (board (ackedFrames 3))) (fun t => t.res.success) = true ∧
    holds (exec (.readStatus 0xA0#8) (board (pollOf 0#8))) (fun t => t.res.success) = true ∧
    holds (exec (.startWrite 0xA0#8 0#16 1#16) (boardFull (ackedFrames 6))) (fun t => t.res.success) = true ∧
    holds (exec (.awaitWriteComplete 0xA0#8) (board (pollOf 0#8))) (fun t => t.res.success) = true :=
  ⟨board_ready _, by decide, by decide, by decide, by decide⟩

end Sys2Proof.Tests
end

/-! PROOF. What no step does (00_scope.md R10, R13; 10_state.md R53, R62; 70_reset_and_hazards.md R290): one relation
between a state and a later one, kept by every micro-operation, hence by every procedure and every phase; the step is
then the host's move and the engine's. -/

namespace Sys2Proof.Machine

/-! ## Outcomes -/

/-- `P` holds of the next state, where the outcome is one. -/
def OnNext (P : State → Prop) : Host.Outcome State Fault Refusal → Prop
  | .next t => P t
  | .fault _ => True
  | .refused _ => True

theorem OnNext.of_eq {P : State → Prop} {o : Host.Outcome State Fault Refusal} {t : State} (h : OnNext P o)
    (ho : o = .next t) : P t := by
  subst ho; exact h

theorem OnNext.imp {P Q : State → Prop} {o : Host.Outcome State Fault Refusal} (h : OnNext P o)
    (hpq : ∀ t, P t → Q t) : OnNext Q o := by
  cases o with
  | next t => exact hpq t h
  | fault r => trivial
  | refused r => trivial

theorem OnNext.andThen {P Q : State → Prop} {o : Host.Outcome State Fault Refusal}
    {f : State → Host.Outcome State Fault Refusal} (h : OnNext P o) (hf : ∀ t, P t → OnNext Q (f t)) :
    OnNext Q (andThen o f) := by
  cases o with
  | next t => exact hf t h
  | fault r => trivial
  | refused r => trivial

/-! ## The relation -/

/-- `t` is later than `s` without a reset between: the trace has grown at its new end, answers were used up in order, the
buffer's size is the same, and `INITED` was not cleared. -/
structure GoesOn (s t : State) : Prop where
  trace : s.trace <:+ t.trace
  answers : ∃ n, t.env = s.env.after n
  bufSize : t.host.bufSize = s.host.bufSize
  inited : s.inited = true → t.inited = true

/-- `t` is later than `s` by the engine's own doing: the operand registers are the same too (10_state.md R62). -/
structure RunsOn (s t : State) : Prop extends GoesOn s t where
  opnd : t.opnd = s.opnd

/-- The registers and inputs that the relation speaks of. -/
def State.history (s : State) : List MicroOp × Env × Nat × Bool × OperandRegs :=
  (s.trace, s.env, s.host.bufSize, s.inited, s.opnd)

theorem GoesOn.trans {s t u : State} (h : GoesOn s t) (g : GoesOn t u) : GoesOn s u := by
  obtain ⟨m, hm⟩ := h.answers
  obtain ⟨n, hn⟩ := g.answers
  exact ⟨h.trace.trans g.trace, ⟨m + n, by rw [hn, hm, Env.after_after]⟩, g.bufSize.trans h.bufSize, g.inited ∘ h.inited⟩

theorem RunsOn.refl (s : State) : RunsOn s s := ⟨⟨List.suffix_rfl, ⟨0, rfl⟩, rfl, id⟩, rfl⟩

theorem RunsOn.trans {s t u : State} (h : RunsOn s t) (g : RunsOn t u) : RunsOn s u :=
  ⟨h.toGoesOn.trans g.toGoesOn, g.opnd.trans h.opnd⟩

/-- Writing the other registers. -/
theorem RunsOn.silent {s t u : State} (h : RunsOn s t) (hu : u.history = t.history) : RunsOn s u := by
  simp only [State.history, Prod.mk.injEq] at hu
  obtain ⟨htrace, henv, hsize, hinited, hopnd⟩ := hu
  exact h.trans ⟨⟨by rw [htrace], ⟨0, by rw [henv, Env.after_zero]⟩, hsize, hinited.trans⟩, hopnd⟩

/-! ## Micro-operations and register writes, slots, frames -/

section
variable {s t : State} (h : RunsOn s t)
include h

theorem RunsOn.then_emit (m : MicroOp) : RunsOn s (emit m t) :=
  h.trans ⟨⟨List.suffix_cons _ _, ⟨0, rfl⟩, rfl, id⟩, rfl⟩

theorem RunsOn.then_nextSample : RunsOn s (nextSample t) :=
  h.trans ⟨⟨List.suffix_rfl, ⟨1, nextSample_env t⟩, rfl, id⟩, rfl⟩

theorem RunsOn.then_setInited : RunsOn s (setInited t) := h.trans ⟨⟨List.suffix_rfl, ⟨0, rfl⟩, rfl, fun _ => rfl⟩, rfl⟩

theorem RunsOn.then_dirOp {d : Direction} : RunsOn s (dirOp d t) := (h.then_emit (.dir d)).silent rfl

theorem RunsOn.then_lvlOp {v : Bool} : RunsOn s (lvlOp v t) := (h.then_emit (.lvl v)).silent rfl

theorem RunsOn.then_dly {i : Config.Interval} : RunsOn s (dly i t) := (h.then_emit (.dly i)).silent rfl

theorem RunsOn.then_csEnter : RunsOn s (csEnter t) := (h.then_emit .csEnter).silent rfl

theorem RunsOn.then_csExit : RunsOn s (csExit t) := (h.then_emit (.csExit t.savedIe)).silent rfl

theorem RunsOn.then_sampleA : RunsOn s (sampleA t) := (h.then_emit (.smp (wireLevel t))).then_nextSample.silent rfl

theorem RunsOn.then_sampleB : RunsOn s (sampleB t) := (h.then_emit (.smp (wireLevel t))).then_nextSample.silent rfl

theorem RunsOn.then_setQtr {q : Fin 4} : RunsOn s (setQtr q t) := h.silent rfl

theorem RunsOn.then_setSlot {k : Fin 10} : RunsOn s (setSlot k t) := h.silent rfl

theorem RunsOn.then_setShr {b : Byte} : RunsOn s (setShr b t) := h.silent rfl

theorem RunsOn.then_setMakb {m : Bool} : RunsOn s (setMakb m t) := h.silent rfl

theorem RunsOn.then_setAck {a : Bool} : RunsOn s (setAck a t) := h.silent rfl

theorem RunsOn.then_shiftIn {b : Bool} : RunsOn s (shiftIn b t) := h.silent rfl

theorem RunsOn.then_setByteidx {n : Nat} : RunsOn s (setByteidx n t) := h.silent rfl

theorem RunsOn.then_setOk {b : Bool} : RunsOn s (setOk b t) := h.silent rfl

theorem RunsOn.then_raise {f : Failure} : RunsOn s (raise f t) := h.silent rfl

theorem RunsOn.then_setPhase {p : Phase} : RunsOn s (setPhase p t) := h.silent rfl

theorem RunsOn.then_quarter {w : Bool} {q : Fin 4} : RunsOn s (quarter w q t) := by
  unfold quarter
  split
  · exact h.then_setQtr.then_lvlOp.then_dly.then_sampleA.then_setQtr
  · exact h.then_dly.then_setQtr
  · exact h.then_lvlOp.then_dly.then_sampleB.then_setQtr
  · exact h.then_dly.then_setQtr

theorem RunsOn.then_exchangeBit {w : Bool} : RunsOn s (exchangeBit w t) :=
  h.then_quarter.then_quarter.then_quarter.then_quarter

theorem RunsOn.then_readOneBit : RunsOn s (readOneBit t) := h.then_dirOp.then_exchangeBit.then_dirOp

theorem RunsOn.then_sendSlot {k : Fin 10} : RunsOn s (sendSlot t k) := h.then_setSlot.then_exchangeBit.then_shiftIn

theorem RunsOn.then_receiveSlot {k : Fin 10} : RunsOn s (receiveSlot t k) := h.then_setSlot.then_exchangeBit.then_shiftIn

theorem RunsOn.then_makSlot : RunsOn s (makSlot t) := h.then_setSlot.then_exchangeBit

theorem RunsOn.then_sakSlot : RunsOn s (sakSlot t) := h.then_setSlot.then_readOneBit.then_setAck

theorem RunsOn.then_storeReceived : RunsOn s (storeReceived t) := by
  unfold storeReceived
  split <;> exact h.silent rfl

end

/-- The slots of a frame, one after the other. -/
theorem RunsOn.then_foldl {s t : State} {slot : State → Fin 10 → State}
    (hslot : ∀ {u : State} {k : Fin 10}, RunsOn s u → RunsOn s (slot u k)) (h : RunsOn s t) (ks : List (Fin 10)) :
    RunsOn s (ks.foldl slot t) := by
  induction ks generalizing t with
  | nil => exact h
  | cons k ks ih => exact ih (hslot h)

section
variable {s t : State} (h : RunsOn s t)
include h

theorem RunsOn.then_sendByte {v : Byte} {more : Bool} : RunsOn s (sendByte v more t) := by
  have hload : RunsOn s (setMakb more (setShr v t)) := h.then_setShr.then_setMakb
  exact (hload.then_foldl (fun hu => hu.then_sendSlot) dataSlots).then_makSlot.then_sakSlot

theorem RunsOn.then_receiveByte {more : Bool} : RunsOn s (receiveByte more t) := by
  have hload : RunsOn s (dirOp .input (setMakb more t)) := h.then_setMakb.then_dirOp
  exact (hload.then_foldl (fun hu => hu.then_receiveSlot) dataSlots).then_dirOp.then_storeReceived.then_makSlot.then_sakSlot

theorem RunsOn.then_sendBuffer {data : State → Nat → Byte} {n : Nat} {terminate : Bool} (left : Nat) :
    RunsOn s (sendBuffer data n terminate left t) := by
  induction left generalizing t with
  | zero => exact h
  | succ left ih =>
    simp only [sendBuffer]
    split
    · exact ih h.then_setByteidx.then_sendByte
    · exact h.then_setByteidx.then_sendByte.then_raise

theorem RunsOn.then_receiveBuffer {n : Nat} (left : Nat) : RunsOn s (receiveBuffer n left t) := by
  induction left generalizing t with
  | zero => exact h
  | succ left ih =>
    simp only [receiveBuffer]
    split
    · exact ih h.then_setByteidx.then_receiveByte
    · exact h.then_setByteidx.then_receiveByte.then_raise

/-! ## Transactions and operations -/

theorem RunsOn.then_payload : RunsOn s (payload t) := by
  unfold payload
  split
  · exact h
  · exact h.then_sendBuffer _
  · exact h.then_receiveBuffer _
  · exact h.then_receiveBuffer _

theorem RunsOn.then_exchange : RunsOn s (exchange t) := by
  simp only [exchange]
  split
  · exact (h.then_sendBuffer _).then_setByteidx.then_payload
  · exact h.then_sendBuffer _

theorem RunsOn.then_sendCommand {d : DescRegs} : RunsOn s (sendCommand d t) :=
  (h.silent rfl : RunsOn s (setOk true (setDesc d t))).then_exchange

theorem RunsOn.then_standbyPulse : RunsOn s (standbyPulse t) := h.then_lvlOp.then_dly.then_lvlOp.then_dly

theorem RunsOn.then_startHeader : RunsOn s (startHeader t) := h.then_lvlOp.then_dly.then_sendByte

theorem RunsOn.then_leadIn : RunsOn s (leadIn t) := by
  unfold leadIn
  split
  · exact h.then_standbyPulse
  · exact h.then_lvlOp.then_dly

theorem RunsOn.then_transaction : RunsOn s (transaction t) :=
  h.then_setOk.then_leadIn.then_csEnter.then_startHeader.then_exchange.then_csExit

theorem RunsOn.then_enter {op : DevOp} : RunsOn s (enter op t) := h.silent rfl

theorem RunsOn.then_loadAddress : RunsOn s (loadAddress t) := h.silent rfl

theorem RunsOn.then_loadWriteOperands : RunsOn s (loadWriteOperands t) := h.silent rfl

theorem RunsOn.then_loadPagedOperands : RunsOn s (loadPagedOperands t) := h.silent rfl

theorem RunsOn.then_complete : RunsOn s (complete t) := h.silent rfl

theorem RunsOn.then_pollLoop (fuel : Nat) : RunsOn s (pollLoop fuel t) := by
  induction fuel generalizing t with
  | zero => exact h
  | succ fuel ih =>
    simp only [pollLoop]
    split
    · exact ih h.then_transaction
    · exact h.then_transaction

theorem RunsOn.then_runPolls : RunsOn s (runPolls t) := by
  have hopen : RunsOn s (awaitOpen t) := by
    simp only [awaitOpen]
    split
    · exact h.then_enter.then_standbyPulse
    · exact h.then_enter
  exact hopen.then_pollLoop _

theorem RunsOn.then_takeChunk : RunsOn s (takeChunk t) := h.silent rfl

theorem RunsOn.then_advanceChunk : RunsOn s (advanceChunk t) := h.silent rfl

theorem RunsOn.then_runChunk : RunsOn s (runChunk t) := by
  have henable := h.then_takeChunk.then_enter (op := .enableWrite).then_transaction
  simp only [runChunk]
  split
  · split
    · split
      · exact henable.then_enter.then_transaction.then_runPolls
      · exact henable.then_enter.then_transaction
    · exact henable.then_enter.then_raise
  · exact henable

theorem RunsOn.then_chunkLoop (fuel : Nat) : RunsOn s (chunkLoop fuel t) := by
  induction fuel generalizing t with
  | zero => exact h.then_complete
  | succ fuel ih =>
    simp only [chunkLoop]
    split
    · exact h.then_complete
    · split
      · exact h.then_runChunk.then_complete
      · split
        · exact h.then_runChunk.then_setPhase
        · exact ih h.then_runChunk.then_advanceChunk

end

/-! ## Instructions -/

theorem runRead_runsOn (s : State) : OnNext (RunsOn s) (runRead s) := by
  have h : RunsOn s (loadAddress s) := (RunsOn.refl s).then_loadAddress
  simp only [runRead]
  split
  · exact h.then_enter.then_transaction.then_complete
  · trivial

theorem runStartWrite_runsOn (s : State) : OnNext (RunsOn s) (runStartWrite s) := by
  have h : RunsOn s (loadWriteOperands s) := (RunsOn.refl s).then_loadWriteOperands
  simp only [runStartWrite]
  split
  · split
    · exact h.then_enter.then_transaction.then_complete
    · trivial
  · exact h.then_enter.then_raise.then_complete

theorem runPlain_runsOn (op : DevOp) (s : State) : OnNext (RunsOn s) (runPlain op s) :=
  (RunsOn.refl s).then_enter.then_transaction.then_complete

theorem runAwait_runsOn (s : State) : OnNext (RunsOn s) (runAwait s) := by
  have h : RunsOn s (runPolls s) := (RunsOn.refl s).then_runPolls
  show RunsOn s (if stillPolling (runPolls s) then suspend (runPolls s) else complete (runPolls s))
  split
  · exact h.then_setPhase
  · exact h.then_complete

theorem runSimpleWrite_runsOn (s : State) : OnNext (RunsOn s) (runSimpleWrite s) := by
  have h : RunsOn s (loadPagedOperands s) := (RunsOn.refl s).then_loadPagedOperands
  simp only [runSimpleWrite]
  split
  · exact h.then_chunkLoop _
  · trivial

/-- START writes the operand registers and nothing else of what the relation speaks of. -/
theorem start_goesOn (load : OperandRegs → OperandRegs) (s : State) : GoesOn s (start load s) :=
  ⟨List.suffix_rfl, ⟨0, rfl⟩, rfl, id⟩

theorem hostRequest_goesOn (i : Instr) {operation : State → Host.Outcome State Fault Refusal}
    (hop : ∀ s, OnNext (RunsOn s) (operation s)) (s : State) : OnNext (GoesOn s) (hostRequest i operation s) := by
  have h := start_goesOn (present i) s
  unfold hostRequest
  split
  · exact (RunsOn.refl s).toGoesOn
  · split
    · exact (hop _).imp fun t ht => h.trans ht.toGoesOn
    · exact h.trans (RunsOn.refl _).then_raise.then_complete.toGoesOn

theorem reservedRequest_goesOn (i : Instr) (s : State) : OnNext (GoesOn s) (reservedRequest i s) := by
  unfold reservedRequest
  split
  · exact (RunsOn.refl s).toGoesOn
  · exact (start_goesOn (present i) s).trans (RunsOn.refl _).then_raise.then_complete.toGoesOn

theorem execInit_goesOn (s : State) : OnNext (GoesOn s) (execInit s) := by
  unfold execInit
  split
  · exact (RunsOn.refl s).toGoesOn
  · exact (start_goesOn _ s).trans (RunsOn.refl _).then_lvlOp.then_dirOp.then_setInited.then_complete.toGoesOn

theorem sendBufferedCommand_runsOn (d : DescRegs) (s : State) : OnNext (RunsOn s) (sendBufferedCommand d s) := by
  unfold sendBufferedCommand
  split
  · exact (RunsOn.refl s).then_sendCommand
  · trivial

/-- An instruction that is no host request is the engine's own doing. -/
theorem exec_runsOn (i : Instr) (hi : i.isRequest = false) (s : State) : OnNext (RunsOn s) (exec i s) := by
  have h := RunsOn.refl s
  cases i with
  | wireRead dev hi lo => exact sendBufferedCommand_runsOn _ s
  | wireWrite dev hi lo => exact sendBufferedCommand_runsOn _ s
  | wireWren dev => exact h.then_sendCommand
  | wireWrdi dev => exact h.then_sendCommand
  | wireRdsr dev => exact h.then_sendCommand
  | wireWrsr dev status => exact h.then_sendCommand
  | crrd => trivial
  | eral => trivial
  | setal => trivial
  | startHeader => exact h.then_startHeader
  | bit1 => exact h.then_exchangeBit
  | bit0 => exact h.then_exchangeBit
  | _ => cases hi

theorem exec_goesOn (i : Instr) (s : State) : OnNext (GoesOn s) (exec i s) := by
  cases i with
  | init => exact execInit_goesOn s
  | read dev offset length => exact hostRequest_goesOn _ runRead_runsOn s
  | startWrite dev offset length => exact hostRequest_goesOn _ runStartWrite_runsOn s
  | enableWrite dev => exact hostRequest_goesOn _ (runPlain_runsOn .enableWrite) s
  | disableWrite dev => exact hostRequest_goesOn _ (runPlain_runsOn .disableWrite) s
  | readStatus dev => exact hostRequest_goesOn _ (runPlain_runsOn .readStatus) s
  | writeStatus dev status => exact hostRequest_goesOn _ (runPlain_runsOn .writeStatus) s
  | awaitWriteComplete dev => exact hostRequest_goesOn _ runAwait_runsOn s
  | simpleWrite dev offset length => exact hostRequest_goesOn _ runSimpleWrite_runsOn s
  | reserved9 | reserved10 | reserved11 | reserved12 | reserved13 | reserved14 | reserved15 =>
    exact reservedRequest_goesOn _ s
  | _ => exact (exec_runsOn _ rfl s).imp fun t ht => ht.toGoesOn

/-! ## The sequencer -/

theorem frameStart_runsOn (s : State) : OnNext (RunsOn s) (frameStart s) := by
  have h := RunsOn.refl s
  unfold frameStart
  split
  · split
    · split
      · exact h.then_setShr.then_setMakb
      · trivial
    · split
      · exact h.then_setShr.then_setMakb
      · trivial
    · split
      · trivial
      · exact h.then_setMakb
    · exact h
  · exact h

section
variable {s t : State} (h : RunsOn s t)
include h

theorem RunsOn.then_slotBefore : RunsOn s (slotBefore t) := by
  unfold slotBefore
  split
  · exact h.then_dirOp
  · split
    · exact h.then_dirOp
    · exact h

theorem RunsOn.then_nextFrame {p : Phase} {i : Nat} : RunsOn s (nextFrame p i t) := h.silent rfl

theorem RunsOn.then_payloadFrameEnd {p : Phase} : RunsOn s (payloadFrameEnd p t) := by
  unfold payloadFrameEnd
  split
  · exact h.then_raise.then_setPhase
  · split
    · exact h.then_nextFrame
    · exact h.then_setPhase

theorem RunsOn.then_commandFrameEnd : RunsOn s (commandFrameEnd t) := by
  unfold commandFrameEnd
  split
  · exact h.then_raise.then_setPhase
  · split
    · exact h.then_nextFrame
    · split
      · exact h.then_setByteidx.then_setPhase
      · split
        · exact h.then_nextFrame
        · exact h.then_nextFrame
        · exact h.then_nextFrame
        · exact h.then_setByteidx.then_setPhase

theorem RunsOn.then_frameEnd : RunsOn s (frameEnd t) := by
  unfold frameEnd
  split
  · exact h.then_nextFrame
  · exact h.then_commandFrameEnd
  · exact h.then_payloadFrameEnd
  · exact h.then_payloadFrameEnd
  · exact h

theorem RunsOn.then_slotAfter : RunsOn s (slotAfter t) := by
  simp only [slotAfter]
  split
  · exact h.then_dirOp.then_setAck.then_frameEnd
  · split
    · exact h.then_setSlot
    · split
      · exact h.then_shiftIn.then_dirOp.then_storeReceived.then_setSlot
      · exact h.then_shiftIn.then_setSlot

end

theorem frameQuarter_runsOn (s : State) : OnNext (RunsOn s) (frameQuarter s) := by
  refine (frameStart_runsOn s).andThen fun t ht => ?_
  have hbefore : RunsOn s (if atSlotStart t then slotBefore t else t) := by
    split
    · exact ht.then_slotBefore
    · exact ht
  generalize (if atSlotStart t then slotBefore t else t) = u at hbefore ⊢
  show RunsOn s (if u.slotE.qtr = 3 then slotAfter (quarter (slotInput u) u.slotE.qtr u) else _)
  split
  · exact hbefore.then_quarter.then_slotAfter
  · exact hbefore.then_quarter

theorem fsmDispatch_runsOn (s : State) : OnNext (RunsOn s) (fsmDispatch s) := by
  have h : RunsOn s (setOk true s) := (RunsOn.refl s).then_setOk
  simp only [fsmDispatch]
  split
  · exact h.then_raise.then_setPhase
  · split
    · exact h.then_raise.then_setPhase
    · split
      · exact h.then_setPhase
      · split
        · exact h.then_loadAddress.then_enter.then_setPhase
        · trivial
      · exact h.then_loadWriteOperands.then_enter.then_setPhase
      · exact h.then_enter.then_setPhase
      · exact h.then_enter.then_setPhase
      · exact h.then_enter.then_setPhase
      · exact h.then_enter.then_setPhase
      · exact h.then_enter.then_setPhase
      · split
        · exact h.then_loadPagedOperands.then_setPhase
        · trivial

theorem fsmPrecheck_runsOn (s : State) : OnNext (RunsOn s) (fsmPrecheck s) := by
  have h := RunsOn.refl s
  unfold fsmPrecheck
  split
  · split
    · exact h.then_setPhase
    · trivial
  · exact h.then_raise.then_setPhase

theorem fsmCsExit_runsOn (s : State) : RunsOn s (fsmCsExit s) := by
  have h : RunsOn s (csExit s) := (RunsOn.refl s).then_csExit
  simp only [fsmCsExit]
  split
  · exact h.then_setPhase
  · split
    · exact h.then_setPhase
    · split
      · exact h.then_enter.then_setPhase
      · split
        · exact h.then_enter.then_setPhase
        · exact h.then_setPhase

theorem fsmPollTest_runsOn (s : State) : RunsOn s (fsmPollTest s) := by
  have h := RunsOn.refl s
  unfold fsmPollTest
  split
  · exact h.then_setPhase
  · split
    · exact h.then_setPhase
    · exact h.then_setPhase

theorem fsmChunkCalc_runsOn (s : State) : RunsOn s (fsmChunkCalc s) := by
  unfold fsmChunkCalc
  split
  · exact (RunsOn.refl s).then_setPhase
  · exact (RunsOn.refl s).then_takeChunk.then_enter.then_setPhase

theorem fsmStep_runsOn (s : State) : OnNext (RunsOn s) (fsmStep s) := by
  have h := RunsOn.refl s
  have hok : RunsOn s (setOk true s) := h.then_setOk
  unfold fsmStep
  cases s.seq.phase with
  | idle => exact h
  | dispatch => exact fsmDispatch_runsOn s
  | precheck => exact fsmPrecheck_runsOn s
  | stbyLow => exact hok.then_lvlOp.then_dly.then_setPhase
  | stbyHigh => exact h.then_lvlOp.then_dly.then_setPhase
  | gap => exact hok.then_lvlOp.then_dly.then_setPhase
  | csEnter => exact h.then_csEnter.then_setPhase
  | hdrHold => exact h.then_lvlOp.then_dly.then_setShr.then_setMakb.then_setSlot.then_setPhase
  | hdrFrame | cmdFrame | txFrame | rxFrame => exact frameQuarter_runsOn s
  | csExit => exact fsmCsExit_runsOn s
  | pollTest => exact fsmPollTest_runsOn s
  | chunkCalc => exact fsmChunkCalc_runsOn s
  | chunkAdv => exact h.then_advanceChunk.then_setPhase
  | initDo => exact h.then_lvlOp.then_dirOp.then_setInited.then_setPhase
  | finish => exact h.then_complete

/-! ## The engine with the host waiting -/

/-- The slot codes decode to the two slots (30_encoding.md R101). -/
theorem decode_slotCode (w : Bool) : decode (slotCode w) = .ok (if w then .bit1 else .bit0) := by
  cases w <;> rfl

theorem not_isRequest_of_isWire {i : Instr} (h : i.isWire = true) : i.isRequest = false := by
  cases i <;> cases h <;> rfl

/-- What the command buffer holds is never a host request. -/
theorem fetchWire_not_request {s : State} {i : Instr} (h : fetchWire s = some i) : i.isRequest = false := by
  unfold fetchWire at h
  split at h
  · cases h; rfl
  · split at h
    · cases h; rfl
    · split at h
      · cases h; rfl
      · split at h
        · split at h
          next hwire => cases h; exact not_isRequest_of_isWire hwire
          next => cases h
        · cases h

theorem slotStep_runsOn (s : State) : OnNext (RunsOn s) (slotStep s) := by
  unfold slotStep
  split
  · refine (frameStart_runsOn s).andThen fun t ht => ?_
    rw [decode_slotCode]
    have hslot : ∀ w : Bool, (if w then Instr.bit1 else Instr.bit0).isRequest = false := by decide
    refine (exec_runsOn _ (hslot _) (slotBefore t)).andThen fun u hu => ?_
    exact (ht.then_slotBefore.trans hu).then_slotAfter
  · exact frameQuarter_runsOn s

theorem engineStep_runsOn (s : State) : OnNext (RunsOn s) (engineStep s) := by
  unfold engineStep
  split
  · exact (exec_runsOn .startHeader rfl s).andThen fun t ht => ht.then_nextFrame
  · split
    · split
      next i hi => exact (exec_runsOn i (fetchWire_not_request hi) s).andThen fun t ht => ht.then_setPhase
      next => exact slotStep_runsOn s
    · exact slotStep_runsOn s
  · exact slotStep_runsOn s
  · exact slotStep_runsOn s
  · exact slotStep_runsOn s
  · exact fsmStep_runsOn s

/-! ## The host's moves -/

theorem hostWrite_goesOn {s t : State} (h : GoesOn s t) : OnNext (GoesOn s) (hostWrite s t) := by
  unfold hostWrite
  split
  · trivial
  · exact h

theorem hostStart_goesOn (s : State) : OnNext (GoesOn s) (hostStart s) := by
  unfold hostStart
  split
  · exact (RunsOn.refl s).toGoesOn
  · split
    · exact exec_goesOn _ s
    · trivial

theorem hostStartPulse_goesOn (s : State) : OnNext (GoesOn s) (hostStartPulse s) := by
  unfold hostStartPulse
  split
  · exact (RunsOn.refl s).toGoesOn
  · exact RunsOn.toGoesOn ((RunsOn.refl s).silent rfl)

theorem hostMove_goesOn {m : HostMove} (hm : m ≠ .rst) (s : State) : OnNext (GoesOn s) (hostMove m s) := by
  have h := RunsOn.refl s
  cases m with
  | wait => exact (engineStep_runsOn s).imp fun t ht => ht.toGoesOn
  | tick => exact (fsmStep_runsOn s).imp fun t ht => ht.toGoesOn
  | start => exact hostStart_goesOn s
  | startPulse => exact hostStartPulse_goesOn s
  | writeReg r v => exact hostWrite_goesOn ⟨List.suffix_rfl, ⟨0, rfl⟩, rfl, id⟩
  | writeIe v => exact hostWrite_goesOn (RunsOn.toGoesOn (h.silent rfl))
  | writeBuf i v =>
    simp only [hostMove]
    split
    · exact hostWrite_goesOn (RunsOn.toGoesOn (h.silent rfl))
    · trivial
  | rst => exact absurd rfl hm

/-- Settles O59: without a reset the step is a move of the host that goes on from the state with the move taken, and with the
host waiting it is the engine's own doing; a reset keeps the trace, the inputs and the buffer. -/
theorem stepHistory : Obligations.StepHistory := by
  intro s t hstep
  replace hstep : hostMove (nextMove s) (popMove s) = .next t := hstep
  by_cases hrst : nextMove s = .rst
  · rw [hrst] at hstep
    obtain rfl : hardReset (popMove s) = t := Host.Outcome.next.inj hstep
    exact ⟨List.suffix_rfl, rfl, ⟨0, rfl, rfl⟩, rfl, fun _ hne => absurd hrst hne, fun hw => by simp [hw] at hrst⟩
  · obtain ⟨htrace, ⟨n, henv⟩, hsize, hinited⟩ := (hostMove_goesOn hrst (popMove s)).of_eq hstep
    refine ⟨htrace, hsize, ⟨n, by rw [henv]; rfl, by rw [henv]; rfl⟩, by rw [henv]; rfl, fun hi _ => hinited hi,
      fun hw => ?_⟩
    rw [hw] at hstep
    exact ((engineStep_runsOn (popMove s)).of_eq hstep).opnd

end Sys2Proof.Machine

/-! PROOF. The handshake (10_state.md R41, R42, R46; 43_device_operations.md R211): what one step of the engine can do, said
once; then a machine is idle or has an operation under way, and every move keeps it so. -/

namespace Sys2Proof.Machine

/-- The next state of an outcome is its next state. -/
theorem OnNext.self (o : Host.Outcome State Fault Refusal) : OnNext (fun t => o = .next t) o := by
  cases o with
  | next t => rfl
  | fault r => trivial
  | refused r => trivial

/-! ## What a step inside a frame can do -/

/-- The registers and inputs that a frame leaves alone, but for the payload's destination. -/
def State.besidesFrames (s : State) :
    DescRegs × OperandRegs × ResultRegs × SeqRegs × OrchRegs × Bool × Bool × HostSide × List HostMove :=
  (s.desc, s.opnd, s.res, s.seq, s.orch, s.savedIe, s.inited, s.host, s.env.moves)

theorem SameBesidesFrames.of_eq {s t : State} (h : t.besidesFrames = s.besidesFrames) : SameBesidesFrames s t := by
  simp only [State.besidesFrames, Prod.mk.injEq] at h
  obtain ⟨hdesc, hopnd, hres, hseq, horch, hsaved, hinited, hhost, hmoves⟩ := h
  exact ⟨hdesc, hopnd, hres, hseq, horch, hsaved, hinited, hhost, hmoves⟩

theorem quarter_frames (w : Bool) (q : Fin 4) (s : State) : SameBesidesFrames s (quarter w q s) := by
  unfold quarter
  split <;> exact .of_eq rfl

theorem exchangeBit_frames (w : Bool) (s : State) : SameBesidesFrames s (exchangeBit w s) := .of_eq rfl

theorem slotBefore_frames (s : State) : SameBesidesFrames s (slotBefore s) := by
  unfold slotBefore
  split
  · exact .of_eq rfl
  · split
    · exact .of_eq rfl
    · exact .refl s

theorem frameStart_frames (s : State) : OnNext (SameBesidesFrames s) (frameStart s) := by
  unfold frameStart
  split
  · split
    · split
      · exact SameBesidesFrames.of_eq rfl
      · trivial
    · split
      · exact SameBesidesFrames.of_eq rfl
      · trivial
    · split
      · trivial
      · exact SameBesidesFrames.of_eq rfl
    · exact .refl s
  · exact .refl s

/-- What a step inside a frame does outside the line, the slot engine and the frame engine: nothing, or it ends the frame, or
it stores a received byte (45_sequencer_fsm.md R246). -/
inductive FrameMove (s t : State) : Prop where
  | stays (h : SameBesidesFrames s t)
  | ends (u : State) (h : SameBesidesFrames s u) (ht : t = frameEnd u)
  | stores (u : State) (h : SameBesidesFrames s u) (hrx : isReceiving s = true) (ht : SameBesidesFrames (storeReceived u) t)

theorem SameBesidesFrames.move {s t u : State} (h : SameBesidesFrames s t) (g : FrameMove t u) : FrameMove s u := by
  cases g with
  | stays g => exact .stays (h.trans g)
  | ends v g hu => exact .ends v (h.trans g) hu
  | stores v g hrx hu => exact .stores v (h.trans g) (by simpa only [isReceiving, h.seq] using hrx) hu

theorem slotAfter_move (s : State) : FrameMove s (slotAfter s) := by
  simp only [slotAfter]
  split
  · exact .ends (setAck (observed (dirOp .output s)) (dirOp .output s)) (.of_eq rfl) rfl
  · split
    · exact .stays (.of_eq rfl)
    · split
      next hstore =>
        exact .stores (dirOp .output (shiftIn (isReceiving s && observed s) s))
          (.of_eq rfl) hstore.2 (.of_eq rfl)
      next => exact .stays (.of_eq rfl)

theorem frameQuarter_move (s : State) : OnNext (FrameMove s) (frameQuarter s) := by
  refine (frameStart_frames s).andThen fun t ht => ?_
  have hbefore : SameBesidesFrames s (if atSlotStart t then slotBefore t else t) := by
    split
    · exact ht.trans (slotBefore_frames t)
    · exact ht
  generalize (if atSlotStart t then slotBefore t else t) = u at hbefore ⊢
  have hquarter := hbefore.trans (quarter_frames (slotInput u) u.slotE.qtr u)
  show FrameMove s (if u.slotE.qtr = 3 then slotAfter (quarter (slotInput u) u.slotE.qtr u) else _)
  split
  · exact hquarter.move (slotAfter_move _)
  · exact .stays hquarter

/-- The two slot codes as instructions (30_encoding.md R101). -/
theorem exec_slot (w : Bool) (s : State) : exec (if w then .bit1 else .bit0) s = .next (exchangeBit w s) := by
  cases w <;> rfl

theorem slotStep_move (s : State) : OnNext (FrameMove s) (slotStep s) := by
  unfold slotStep
  split
  · refine (frameStart_frames s).andThen fun t ht => ?_
    simp only [decode_slotCode, exec_slot]
    exact (ht.trans ((slotBefore_frames t).trans (exchangeBit_frames _ _))).move (slotAfter_move _)
  · exact frameQuarter_move s

/-! ## The handshake: idle, or an operation under way -/

/-- The clauses of the invariant on the handshake and on what leads to it. -/
structure State.controlled (s : State) : Prop where
  handshake : s.handshake
  initFirst : s.initFirst
  okWhileRunning : s.okWhileRunning

/-- An operation is under way: `BUSY`, not yet `DONE`, in a phase other than `IDLE`, and so far without a failure where none
may have happened. -/
structure State.underWay (s : State) : Prop where
  busy : s.res.busy = true
  done : s.res.done = false
  phase : s.seq.phase ≠ .idle
  initFirst : s.initFirst
  okWhileRunning : s.okWhileRunning

theorem State.controlled.of_idle {s : State} (hbusy : s.res.busy = false) (hphase : s.seq.phase = .idle) : s.controlled where
  handshake := by simp [State.handshake, hbusy, hphase]
  initFirst := fun _ => .inl hphase
  okWhileRunning := .inl hphase

theorem State.underWay.controlled {s : State} (h : s.underWay) : s.controlled where
  handshake := by simp [State.handshake, h.busy, h.done, h.phase]
  initFirst := h.initFirst
  okWhileRunning := h.okWhileRunning

theorem State.controlled.idle_or_underWay {s : State} (h : s.controlled) :
    (s.res.busy = false ∧ s.seq.phase = .idle) ∨ s.underWay := by
  obtain ⟨hbusy, hdone⟩ := h.handshake
  by_cases hphase : s.seq.phase = .idle
  · exact .inl ⟨by simpa [hphase] using hbusy, hphase⟩
  · have hb : s.res.busy = true := hbusy.2 hphase
    exact .inr ⟨hb, by simpa [hb] using hdone, hphase, h.initFirst, h.okWhileRunning⟩

/-- What the clauses speak of is the same. -/
theorem State.underWay.congr {s t : State} (h : s.underWay) (hbusy : t.res.busy = s.res.busy) (hdone : t.res.done = s.res.done)
    (hseq : t.seq = s.seq) (hinited : t.inited = s.inited) : t.underWay where
  busy := hbusy.trans h.busy
  done := hdone.trans h.done
  phase := by rw [hseq]; exact h.phase
  initFirst := by
    have hfirst := h.initFirst
    simpa only [State.initFirst, hseq, hinited] using hfirst
  okWhileRunning := by
    have hok := h.okWhileRunning
    simpa only [State.okWhileRunning, hseq] using hok

theorem SameBesidesFrames.underWay {s t : State} (g : SameBesidesFrames s t) (h : s.underWay) : t.underWay :=
  h.congr (by rw [g.res]) (by rw [g.res]) g.seq g.inited

theorem setPhase_underWay {u : State} {p : Phase} (hbusy : u.res.busy = true) (hdone : u.res.done = false) (hp : p ≠ .idle)
    (hinit : u.inited = true ∨ p = .dispatch ∨ p = .initDo ∨ p = .finish)
    (hok : u.seq.ok = true ∨ p = .dispatch ∨ p = .csExit ∨ p = .finish) : (setPhase p u).underWay where
  busy := hbusy
  done := hdone
  phase := hp
  initFirst := fun hi => .inr (hinit.resolve_left (by simpa using hi))
  okWhileRunning := by
    simp only [State.okWhileRunning, setPhase_seq]
    tauto

theorem complete_controlled (s : State) : (complete s).controlled := .of_idle rfl rfl

/-- `init` has completed in the phases of the device operations (43_device_operations.md R211). -/
theorem State.underWay.inited {s : State} {p : Phase} (h : s.underWay) (hp : s.seq.phase = p)
    (hdevice : p ∉ [.idle, .dispatch, .initDo, .finish]) : s.inited = true := by
  subst hp
  by_contra hi
  exact hdevice (by simpa using h.initFirst (by simpa using hi))

/-- `OK` is 1 in the phases that no failure leads to (10_state.md R46). -/
theorem State.underWay.ok {s : State} {p : Phase} (h : s.underWay) (hp : s.seq.phase = p)
    (hrunning : p ∉ [.idle, .dispatch, .csExit, .finish]) : s.seq.ok = true := by
  subst hp
  have hok := h.okWhileRunning
  simp only [State.okWhileRunning] at hok
  simp only [List.mem_cons, List.not_mem_nil, or_false, not_or] at hrunning
  tauto

/-! ## The phases outside the frames -/

/-- `BUSY`, `DONE` and the buffer: what the phases of an operation leave alone outside its received frames. -/
def State.settled (s : State) : Bool × Bool × Memory × Nat := (s.res.busy, s.res.done, s.host.buf, s.host.bufSize)

/-- A step that leaves an operation under way and the buffer as it is. -/
structure PhaseMove (s t : State) : Prop where
  underWay : t.underWay
  settled : t.settled = s.settled

/-- The sequencer goes to phase `p`: `INITED` and `OK` are as that phase asks. -/
theorem PhaseMove.setPhase {s u : State} {p : Phase} (h : s.underWay) (hu : u.settled = s.settled) (hp : p ≠ .idle)
    (hinit : u.inited = true ∨ p = .dispatch ∨ p = .initDo ∨ p = .finish)
    (hok : u.seq.ok = true ∨ p = .dispatch ∨ p = .csExit ∨ p = .finish) : PhaseMove s (setPhase p u) where
  settled := hu
  underWay := by
    simp only [State.settled, Prod.mk.injEq] at hu
    obtain ⟨hbusy, hdone, -, -⟩ := hu
    exact setPhase_underWay (hbusy.trans h.busy) (hdone.trans h.done) hp hinit hok

theorem PhaseMove.finish {s u : State} (h : s.underWay) (hu : u.settled = s.settled) :
    PhaseMove s (Machine.setPhase .finish u) :=
  .setPhase h hu (by decide) (by simp) (by simp)

/-- The phases of a device operation: `INITED` and `OK` are 1. -/
theorem PhaseMove.device {s u : State} {p : Phase} (h : s.underWay) (hu : u.settled = s.settled) (hinit : u.inited = true)
    (hok : u.seq.ok = true) (hp : p ≠ .idle) : PhaseMove s (Machine.setPhase p u) :=
  .setPhase h hu hp (.inl hinit) (.inl hok)

/-- A failed operation, or one whose frames are sent, leaves the critical section. -/
theorem PhaseMove.csExit {s u : State} (h : s.underWay) (hu : u.settled = s.settled) (hinit : u.inited = true) :
    PhaseMove s (Machine.setPhase .csExit u) :=
  .setPhase h hu (by decide) (.inl hinit) (by simp)

theorem fsmDispatch_move {s : State} (h : s.underWay) : OnNext (PhaseMove s) (fsmDispatch s) := by
  simp only [fsmDispatch]
  split
  · exact .finish h rfl
  · split
    · exact .finish h rfl
    next hrefused =>
      have hinit : ∀ {n : Nat}, s.opnd.opsel.toNat = n → n ≠ 0 → s.inited = true := by
        intro n hop hn
        by_contra hi
        exact hrefused ⟨hop.trans_ne hn, hi⟩
      split
      next => exact .setPhase h rfl (by decide) (by simp) (.inl rfl)
      next hop =>
        split
        · exact .device h rfl (hinit hop (by decide)) rfl (by decide)
        · trivial
      next hop => exact .device h rfl (hinit hop (by decide)) rfl (by decide)
      next hop => exact .device h rfl (hinit hop (by decide)) rfl (by decide)
      next hop => exact .device h rfl (hinit hop (by decide)) rfl (by decide)
      next hop => exact .device h rfl (hinit hop (by decide)) rfl (by decide)
      next hop => exact .device h rfl (hinit hop (by decide)) rfl (by decide)
      next hop => exact .device h rfl (hinit hop (by decide)) rfl (by decide)
      next hop _ _ _ _ _ _ _ =>
        split
        · exact .device h rfl (hinit rfl hop) rfl (by decide)
        · trivial

section
variable {s : State} (h : s.underWay) (hinit : s.inited = true)
include h hinit

theorem fsmCsExit_move : PhaseMove s (fsmCsExit s) := by
  simp only [fsmCsExit]
  split
  · exact .finish h rfl
  next hok =>
    have hok : s.seq.ok = true := by simpa using hok
    split
    · exact .device h rfl hinit hok (by decide)
    · split
      · exact .device h rfl hinit hok (by decide)
      · split
        · exact .device h rfl hinit hok (by decide)
        · exact .finish h rfl

variable (hok : s.seq.ok = true)
include hok

theorem fsmPrecheck_move : OnNext (PhaseMove s) (fsmPrecheck s) := by
  unfold fsmPrecheck
  split
  · split
    · exact .device h rfl hinit hok (by decide)
    · trivial
  · exact .finish h rfl

theorem fsmPollTest_move : PhaseMove s (fsmPollTest s) := by
  unfold fsmPollTest
  split
  · exact .device h rfl hinit hok (by decide)
  · split
    · exact .device h rfl hinit hok (by decide)
    · exact .finish h rfl

theorem fsmChunkCalc_move : PhaseMove s (fsmChunkCalc s) := by
  unfold fsmChunkCalc
  split
  · exact .finish h rfl
  · exact .device h rfl hinit hok (by decide)

end

/-- One phase outside the frames, with an operation under way. -/
theorem fsmStep_move {s : State} (h : s.underWay) (hframe : isFramePhase s.seq.phase = false)
    (hfinish : s.seq.phase ≠ .finish) : OnNext (PhaseMove s) (fsmStep s) := by
  unfold fsmStep
  cases hp : s.seq.phase with
  | idle => exact absurd hp h.phase
  | dispatch => exact fsmDispatch_move h
  | precheck => exact fsmPrecheck_move h (h.inited hp (by decide)) (h.ok hp (by decide))
  | stbyLow => exact .device h rfl (h.inited hp (by decide)) rfl (by decide)
  | stbyHigh =>
    refine .device h rfl (h.inited hp (by decide)) (h.ok hp (by decide)) ?_
    split <;> decide
  | gap => exact .device h rfl (h.inited hp (by decide)) rfl (by decide)
  | csEnter => exact .device h rfl (h.inited hp (by decide)) (h.ok hp (by decide)) (by decide)
  | hdrHold => exact .device h rfl (h.inited hp (by decide)) (h.ok hp (by decide)) (by decide)
  | hdrFrame | cmdFrame | txFrame | rxFrame => simp [hp, isFramePhase] at hframe
  | csExit => exact fsmCsExit_move h (h.inited hp (by decide))
  | pollTest => exact fsmPollTest_move h (h.inited hp (by decide)) (h.ok hp (by decide))
  | chunkCalc => exact fsmChunkCalc_move h (h.inited hp (by decide)) (h.ok hp (by decide))
  | chunkAdv => exact .device h rfl (h.inited hp (by decide)) (h.ok hp (by decide)) (by decide)
  | initDo => exact .finish h rfl
  | finish => exact absurd hp hfinish

/-! ## The frames -/

section
variable {s : State} (h : s.underWay) (hinit : s.inited = true) (hok : s.seq.ok = true)
include h hinit hok

theorem commandFrameEnd_move : PhaseMove s (commandFrameEnd s) := by
  unfold commandFrameEnd
  split
  · exact .csExit h rfl hinit
  · split
    · exact .device h rfl hinit hok (by decide)
    · split
      · exact .csExit h rfl hinit
      · split
        · exact .device h rfl hinit hok (by decide)
        · exact .device h rfl hinit hok (by decide)
        · exact .device h rfl hinit hok (by decide)
        · exact .csExit h rfl hinit

theorem payloadFrameEnd_move {p : Phase} (hp : p ≠ .idle) : PhaseMove s (payloadFrameEnd p s) := by
  unfold payloadFrameEnd
  split
  · exact .csExit h rfl hinit
  · split
    · exact .device h rfl hinit hok hp
    · exact .csExit h rfl hinit

end

/-- The end of a frame leads to a next frame or out of the critical section (R242 to R245). -/
theorem frameEnd_move {s : State} (h : s.underWay) (hframe : isFramePhase s.seq.phase = true) : PhaseMove s (frameEnd s) := by
  unfold frameEnd
  cases hp : s.seq.phase with
  | hdrFrame => exact .device h rfl (h.inited hp (by decide)) (h.ok hp (by decide)) (by decide)
  | cmdFrame => exact commandFrameEnd_move h (h.inited hp (by decide)) (h.ok hp (by decide))
  | txFrame => exact payloadFrameEnd_move h (h.inited hp (by decide)) (h.ok hp (by decide)) (by decide)
  | rxFrame => exact payloadFrameEnd_move h (h.inited hp (by decide)) (h.ok hp (by decide)) (by decide)
  | _ => simp [hp, isFramePhase] at hframe

theorem storeReceived_underWay {s : State} (h : s.underWay) : (storeReceived s).underWay :=
  h.congr (storeReceived_res_busy s) (storeReceived_res_done s) (storeReceived_seq s) (storeReceived_inited s)

theorem FrameMove.underWay {s t : State} (g : FrameMove s t) (h : s.underWay) (hframe : isFramePhase s.seq.phase = true) :
    t.underWay := by
  cases g with
  | stays g => exact g.underWay h
  | ends u g ht => subst ht; exact (frameEnd_move (g.underWay h) (by rw [g.seq]; exact hframe)).underWay
  | stores u g hrx ht => exact ht.underWay (storeReceived_underWay (g.underWay h))

/-! ## The engine -/

/-- What a step of the engine does with an operation under way: a phase outside the frames, a step inside a frame, the
completion, or a whole wire command (log 1). -/
inductive EngineMove (s t : State) : Prop where
  | phase (h : PhaseMove s t)
  | frame (h : FrameMove s t) (hframe : isFramePhase s.seq.phase = true)
  | completes (ht : t = complete s)
  | command (i : Instr) (u : State) (hframe : isFramePhase s.seq.phase = true) (hi : i.isRequest = false)
      (hu : exec i s = .next u) (ht : t = setPhase .csExit u)

theorem fsmStep_frame {s : State} (hframe : isFramePhase s.seq.phase = true) : fsmStep s = frameQuarter s := by
  unfold fsmStep
  cases hp : s.seq.phase with
  | hdrFrame | cmdFrame | txFrame | rxFrame => rfl
  | _ => simp [hp, isFramePhase] at hframe

theorem fsmStep_finish {s : State} (hfinish : s.seq.phase = .finish) : fsmStep s = .next (complete s) := by
  simp only [fsmStep, hfinish]

theorem fsmStep_engineMove {s : State} (h : s.underWay) : OnNext (EngineMove s) (fsmStep s) := by
  by_cases hframe : isFramePhase s.seq.phase = true
  · rw [fsmStep_frame hframe]
    exact (frameQuarter_move s).imp fun t ht => .frame ht hframe
  · by_cases hfinish : s.seq.phase = .finish
    · rw [fsmStep_finish hfinish]
      exact .completes rfl
    · exact (fsmStep_move h (by simpa using hframe) hfinish).imp fun t ht => .phase ht

theorem sendByte_frames (v : Byte) (more : Bool) (s : State) : SameBesidesFrames s (sendByte v more s) := by
  obtain ⟨-, -, -, -, -, -, -, h⟩ := sendByte_spec v more s
  exact h

theorem startHeader_frames (s : State) : SameBesidesFrames s (startHeader s) := by
  have hhold : SameBesidesFrames s (dly .hdr (lvlOp false s)) := .of_eq rfl
  exact hhold.trans (sendByte_frames _ _ _)

theorem SameBesidesFrames.nextFrame_move {s t : State} {p : Phase} (g : SameBesidesFrames s t) (h : s.underWay)
    (hinit : s.inited = true) (hok : s.seq.ok = true) (hp : p ≠ .idle) (i : Nat) : PhaseMove s (nextFrame p i t) := by
  have hsettled : t.settled = s.settled := by simp only [State.settled, g.res, g.host]
  exact .device h hsettled (g.inited.trans hinit) (by rw [← hok, ← g.seq]; rfl) hp

theorem startHeader_move {s : State} (h : s.underWay) (hp : s.seq.phase = .hdrHold) :
    PhaseMove s (nextFrame .cmdFrame 0 (startHeader s)) :=
  (startHeader_frames s).nextFrame_move h (h.inited hp (by decide)) (h.ok hp (by decide)) (by decide) 0

theorem engineStep_engineMove {s : State} (h : s.underWay) : OnNext (EngineMove s) (engineStep s) := by
  unfold engineStep
  split
  next hp => exact .phase (startHeader_move h hp)
  next hp =>
    have hframe : isFramePhase s.seq.phase = true := by rw [hp]; rfl
    split
    · split
      next i hi =>
        refine (OnNext.self (exec i s)).andThen fun u hu => ?_
        have hmove : EngineMove s (setPhase .csExit u) := .command i u hframe (fetchWire_not_request hi) hu rfl
        exact hmove
      next => exact (slotStep_move s).imp fun t ht => .frame ht hframe
    · exact (slotStep_move s).imp fun t ht => .frame ht hframe
  next hp => exact (slotStep_move s).imp fun t ht => .frame ht (by rw [hp]; rfl)
  next hp => exact (slotStep_move s).imp fun t ht => .frame ht (by rw [hp]; rfl)
  next hp => exact (slotStep_move s).imp fun t ht => .frame ht (by rw [hp]; rfl)
  next => exact fsmStep_engineMove h

theorem fsmStep_idle {s : State} (hidle : s.seq.phase = .idle) : fsmStep s = .next s := by
  simp only [fsmStep, hidle]

theorem engineStep_idle {s : State} (hidle : s.seq.phase = .idle) : engineStep s = .next s := by
  simp only [engineStep, hidle, fsmStep_idle hidle]

/-! ## The host and the engine -/

theorem decodeRequest_isRequest (opsel : BitVec 4) (dev : Byte) (offset length : Half) (status : Byte) :
    (decodeRequest opsel dev offset length status).isRequest = true := by
  unfold decodeRequest
  split <;> rfl

/-- What the request registers hold is a host request (30_encoding.md R124). -/
theorem fetchRequest_isRequest {s : State} {i : Instr} (h : fetchRequest s = .ok i) : i.isRequest = true := by
  simp only [fetchRequest, requestWord, requestBytes, decode] at h
  split at h
  · cases h
    exact decodeRequest_isRequest ..
  · cases h

/-- What a step does once the host's move is taken: nothing, the engine's own move, a whole request, or the host's
(00_scope.md R8). -/
inductive StepMove (s t : State) : Prop where
  | rests (ht : t = s)
  | engine (hrun : s.underWay) (h : EngineMove s t)
  | request (i : Instr) (hi : i.isRequest = true) (ht : exec i s = .next t)
  | pulse (hbusy : s.res.busy = false) (ht : t = pulseStart s)
  | writesReg (r : HostReg) (v : Nat) (hbusy : s.res.busy = false) (ht : t = setOperands (writeReg r v s.opnd) s)
  | writesIe (v : Bool) (hbusy : s.res.busy = false) (ht : t = { s with host := { s.host with ie := v } })
  | writesBuf (i : Nat) (v : Byte) (hbusy : s.res.busy = false) (hi : i < s.host.bufSize) (ht : t = bufWrite i v s)
  | resets (ht : t = hardReset s)

theorem hostWrite_onNext {P : State → Prop} {s t : State} (h : s.res.busy = false → P t) : OnNext P (hostWrite s t) := by
  unfold hostWrite
  split
  · trivial
  next hbusy => exact h (by simpa using hbusy)

theorem hostMove_stepMove (m : HostMove) {s : State} (h : s.controlled) : OnNext (StepMove s) (hostMove m s) := by
  cases m with
  | wait =>
    obtain ⟨-, hidle⟩ | hrun := h.idle_or_underWay
    · rw [hostMove, engineStep_idle hidle]
      exact .rests rfl
    · exact (engineStep_engineMove hrun).imp fun t ht => .engine hrun ht
  | tick =>
    obtain ⟨-, hidle⟩ | hrun := h.idle_or_underWay
    · rw [hostMove, fsmStep_idle hidle]
      exact .rests rfl
    · exact (fsmStep_engineMove hrun).imp fun t ht => .engine hrun ht
  | start =>
    simp only [hostMove, hostStart]
    split
    · exact .rests rfl
    · split
      next i hi => exact (OnNext.self (exec i s)).imp fun t ht => .request i (fetchRequest_isRequest hi) ht
      next => trivial
  | startPulse =>
    simp only [hostMove, hostStartPulse]
    split
    · exact .rests rfl
    next hbusy => exact .pulse (by simpa using hbusy) rfl
  | writeReg r v => exact hostWrite_onNext fun hbusy => .writesReg r v hbusy rfl
  | writeIe v => exact hostWrite_onNext fun hbusy => .writesIe v hbusy rfl
  | writeBuf i v =>
    simp only [hostMove]
    split
    next hi => exact hostWrite_onNext fun hbusy => .writesBuf i v hbusy hi rfl
    next => trivial
  | rst => exact .resets rfl

theorem State.Inv.controlled {s : State} (h : s.Inv) : s.controlled := ⟨h.handshake, h.initFirst, h.okWhileRunning⟩

/-- The invariant does not speak of the host's moves. -/
theorem popMove_inv {s : State} (h : s.Inv) : (popMove s).Inv :=
  ⟨h.handshake, h.initFirst, h.slotsRest, h.lineDriven, h.slotLevel, h.lineHigh, h.exchangeMasked, h.descriptorLoaded,
    h.payloadAdmitted, h.bufferForm, h.countersInRange, h.chunksInStep, h.okWhileRunning⟩

theorem step_stepMove {s : State} (h : s.Inv) : OnNext (StepMove (popMove s)) (step s) :=
  hostMove_stepMove (nextMove s) (popMove_inv h).controlled

/-! ## Requests -/

/-- A host operation runs: nothing but its own end changes the handshake, and `init` has completed. -/
structure State.operating (s : State) : Prop where
  busy : s.res.busy = true
  done : s.res.done = false
  inited : s.inited = true

theorem SameBesidesRun.operating {s t : State} (g : SameBesidesRun s t) (h : s.operating) : t.operating :=
  ⟨g.busy.trans h.busy, g.done.trans h.done, g.inited.trans h.inited⟩

section
variable {s : State} (h : s.operating)
include h

theorem transaction_operating : (transaction s).operating := by
  obtain ⟨-, -, -, -, -, hinited, -, -, -, -, hbusy, hdone, -⟩ := transaction_run s
  exact ⟨hbusy.trans h.busy, hdone.trans h.done, hinited.trans h.inited⟩

theorem enter_operating (op : DevOp) : (enter op s).operating := ⟨h.busy, h.done, h.inited⟩

theorem sendCommand_operating (d : DescRegs) : (sendCommand d s).operating := by
  have hstart : (setOk true (setDesc d s)).operating := ⟨h.busy, h.done, h.inited⟩
  exact (exchange_run _).operating hstart

theorem pollLoop_operating (fuel : Nat) : (pollLoop fuel s).operating := by
  induction fuel generalizing s with
  | zero => exact h
  | succ fuel ih =>
    simp only [pollLoop]
    split
    · exact ih (transaction_operating h)
    · exact transaction_operating h

theorem runPolls_operating : (runPolls s).operating := by
  have hopen : (awaitOpen s).operating := ⟨h.busy, h.done, h.inited⟩
  exact pollLoop_operating hopen _

theorem runChunk_operating : (runChunk s).operating := by
  have htake : (takeChunk s).operating := ⟨h.busy, h.done, h.inited⟩
  have henable := transaction_operating (enter_operating htake .enableWrite)
  have hwrite := transaction_operating (enter_operating henable .startWrite)
  simp only [runChunk]
  split
  · split
    · split
      · exact runPolls_operating hwrite
      · exact hwrite
    · exact (raise_run _ _).operating (enter_operating henable .startWrite)
  · exact henable

theorem advanceChunk_operating : (advanceChunk s).operating := ⟨h.busy, h.done, h.inited⟩

theorem suspend_controlled (hok : s.seq.ok = true) : (suspend s).controlled :=
  (setPhase_underWay h.busy h.done (by decide) (.inl h.inited) (.inl hok)).controlled

theorem chunkLoop_controlled (fuel : Nat) : (chunkLoop fuel s).controlled := by
  induction fuel generalizing s with
  | zero => exact complete_controlled s
  | succ fuel ih =>
    have hchunk := runChunk_operating h
    simp only [chunkLoop]
    split
    · exact complete_controlled s
    · split
      · exact complete_controlled _
      next hok =>
        split
        · exact suspend_controlled hchunk (by simpa using hok)
        · exact ih (advanceChunk_operating hchunk)

theorem runAwait_controlled : OnNext State.controlled (runAwait s) := by
  show (if stillPolling (runPolls s) then suspend (runPolls s) else complete (runPolls s)).controlled
  split
  next hpolling =>
    simp only [stillPolling, Bool.and_eq_true] at hpolling
    exact suspend_controlled (runPolls_operating h) hpolling.1
  next => exact complete_controlled _

theorem runSimpleWrite_controlled : OnNext State.controlled (runSimpleWrite s) := by
  have hload : (loadPagedOperands s).operating := ⟨h.busy, h.done, h.inited⟩
  simp only [runSimpleWrite]
  split
  · exact chunkLoop_controlled hload _
  · trivial

end

theorem runRead_controlled (s : State) : OnNext State.controlled (runRead s) := by
  simp only [runRead]
  split
  · exact complete_controlled _
  · trivial

theorem runStartWrite_controlled (s : State) : OnNext State.controlled (runStartWrite s) := by
  simp only [runStartWrite]
  split
  · split
    · exact complete_controlled _
    · trivial
  · exact complete_controlled _

theorem runPlain_controlled (op : DevOp) (s : State) : OnNext State.controlled (runPlain op s) := complete_controlled _

/-- What a request can do: nothing while busy, its operation, or its refusal before `init` (R211, R212). -/
theorem hostRequest_onNext {P : State → Prop} {i : Instr} {operation : State → Host.Outcome State Fault Refusal} {s : State}
    (hbusy : P s) (hop : s.inited = true → OnNext P (operation (start (present i) s)))
    (hrefused : P (complete (raise .notInitialised (start (present i) s)))) : OnNext P (hostRequest i operation s) := by
  unfold hostRequest
  split
  · exact hbusy
  · split
    next hinited => exact hop hinited
    next => exact hrefused

theorem hostRequest_controlled (i : Instr) {operation : State → Host.Outcome State Fault Refusal}
    (hop : ∀ {s : State}, s.operating → OnNext State.controlled (operation s)) {s : State} (h : s.controlled) :
    OnNext State.controlled (hostRequest i operation s) :=
  hostRequest_onNext h (fun hinited => hop ⟨rfl, rfl, hinited⟩) (complete_controlled _)

theorem reservedRequest_controlled (i : Instr) {s : State} (h : s.controlled) :
    OnNext State.controlled (reservedRequest i s) := by
  unfold reservedRequest
  split
  · exact h
  · exact complete_controlled _

theorem execInit_controlled {s : State} (h : s.controlled) : OnNext State.controlled (execInit s) := by
  unfold execInit
  split
  · exact h
  · exact complete_controlled _

theorem exec_request_controlled {i : Instr} (hi : i.isRequest = true) {s : State} (h : s.controlled) :
    OnNext State.controlled (exec i s) := by
  have hplain : ∀ op j, OnNext State.controlled (hostRequest j (runPlain op) s) :=
    fun op j => hostRequest_controlled j (fun _ => runPlain_controlled op _) h
  cases i with
  | init => exact execInit_controlled h
  | read dev offset length => exact hostRequest_controlled _ (fun _ => runRead_controlled _) h
  | startWrite dev offset length => exact hostRequest_controlled _ (fun _ => runStartWrite_controlled _) h
  | enableWrite dev => exact hplain .enableWrite _
  | disableWrite dev => exact hplain .disableWrite _
  | readStatus dev => exact hplain .readStatus _
  | writeStatus dev status => exact hplain .writeStatus _
  | awaitWriteComplete dev => exact hostRequest_controlled _ runAwait_controlled h
  | simpleWrite dev offset length => exact hostRequest_controlled _ runSimpleWrite_controlled h
  | reserved9 | reserved10 | reserved11 | reserved12 | reserved13 | reserved14 | reserved15 =>
    exact reservedRequest_controlled _ h
  | _ => cases hi

/-- A wire command, the header or a slot leaves the handshake alone. -/
theorem exec_wire_operating {i : Instr} (hi : i.isRequest = false) {s : State} (h : s.operating) :
    OnNext State.operating (exec i s) := by
  have hbuffered : ∀ d, OnNext State.operating (sendBufferedCommand d s) := by
    intro d
    unfold sendBufferedCommand
    split
    · exact sendCommand_operating h d
    · trivial
  have hheader : (startHeader s).operating := (startHeader_run s).operating h
  have hslot : ∀ w, (exchangeBit w s).operating := fun w => (exchangeBit_frames w s).run.operating h
  cases i with
  | wireRead dev hi lo => exact hbuffered _
  | wireWrite dev hi lo => exact hbuffered _
  | wireWren dev => exact sendCommand_operating h _
  | wireWrdi dev => exact sendCommand_operating h _
  | wireRdsr dev => exact sendCommand_operating h _
  | wireWrsr dev status => exact sendCommand_operating h _
  | crrd => trivial
  | eral => trivial
  | setal => trivial
  | startHeader => exact hheader
  | bit1 => exact hslot true
  | bit0 => exact hslot false
  | _ => cases hi

theorem not_mem_of_isFramePhase {p : Phase} (h : isFramePhase p = true) : p ∉ [.idle, .dispatch, .initDo, .finish] := by
  revert h
  cases p <;> decide

theorem State.underWay.operating_of_frame {s : State} (h : s.underWay) (hframe : isFramePhase s.seq.phase = true) :
    s.operating :=
  ⟨h.busy, h.done, h.inited rfl (not_mem_of_isFramePhase hframe)⟩

theorem EngineMove.controlled {s t : State} (g : EngineMove s t) (h : s.underWay) : t.controlled := by
  cases g with
  | phase g => exact g.underWay.controlled
  | frame g hframe => exact (g.underWay h hframe).controlled
  | completes ht => subst ht; exact complete_controlled s
  | command i u hframe hi hu ht =>
    subst ht
    have hrun : u.operating := (exec_wire_operating hi (h.operating_of_frame hframe)).of_eq hu
    exact (setPhase_underWay hrun.busy hrun.done (by decide) (.inl hrun.inited) (by simp)).controlled

theorem pulseStart_underWay (s : State) : (pulseStart s).underWay :=
  setPhase_underWay (u := pulseStart s) (p := .dispatch) rfl rfl (by decide) (by simp) (by simp)

theorem StepMove.controlled {s t : State} (g : StepMove s t) (h : s.controlled) : t.controlled := by
  cases g with
  | rests ht => subst ht; exact h
  | engine hrun g => exact g.controlled hrun
  | request i hi ht => exact (exec_request_controlled hi h).of_eq ht
  | pulse hbusy ht => subst ht; exact (pulseStart_underWay s).controlled
  | writesReg r v hbusy ht => subst ht; exact ⟨h.handshake, h.initFirst, h.okWhileRunning⟩
  | writesIe v hbusy ht => subst ht; exact ⟨h.handshake, h.initFirst, h.okWhileRunning⟩
  | writesBuf i v hbusy hi ht => subst ht; exact ⟨h.handshake, h.initFirst, h.okWhileRunning⟩
  | resets ht => subst ht; exact .of_idle rfl rfl

/-- Settles O52: a state of the machine's is idle or has an operation under way, and every move leads to one of the two. -/
theorem handshakeKept : Obligations.HandshakeKept := by
  intro s t hinv hstep
  obtain ⟨hhandshake, hinit, hok⟩ := ((step_stepMove hinv).of_eq hstep).controlled (popMove_inv hinv).controlled
  exact ⟨hhandshake, hinit, hok⟩

end Sys2Proof.Machine

/-! PROOF. The host buffer (10_state.md R56; 20_memory.md R71, R72): only a received byte and the host write it, always inside its
size, so its form is kept. -/

namespace Sys2Proof.Machine

/-! ## Writes to the buffer -/

theorem State.bufferForm.congr {s t : State} (h : s.bufferForm) (hbuf : t.host.buf = s.host.buf)
    (hsize : t.host.bufSize = s.host.bufSize) : t.bufferForm := by
  obtain ⟨hwf, hin⟩ := h
  exact ⟨by rw [hbuf]; exact hwf, by rw [hbuf, hsize]; exact hin⟩

theorem SameBesidesFrames.bufferForm {s t : State} (g : SameBesidesFrames s t) (h : s.bufferForm) : t.bufferForm :=
  h.congr (by rw [g.host]) (by rw [g.host])

theorem bufWrite_bufferForm {s : State} (h : s.bufferForm) {i : Nat} (hi : i < s.host.bufSize) (v : Byte) :
    (bufWrite i v s).bufferForm := by
  obtain ⟨hwf, hin⟩ := h
  refine ⟨memWrite_wf _ _ _ hwf, fun c hc => ?_⟩
  obtain hold | hnew := mem_memWrite _ _ _ c hc
  · exact hin c hold
  · rw [hnew]; exact hi

/-- A byte received now would be stored inside the buffer, if there. -/
def State.storesInside (s : State) : Prop := s.desc.pdir = .rxBuf → payloadIndex s < s.host.bufSize

/-- What a reception of the whole payload would store lies inside the buffer. -/
def State.receivesInside (s : State) : Prop := s.desc.pdir = .rxBuf → payloadFits s = true

theorem SameBesidesFrames.storesInside {s t : State} (g : SameBesidesFrames s t) (h : s.storesInside) : t.storesInside := by
  simpa only [State.storesInside, payloadIndex, g.desc, g.seq, g.host] using h

theorem SameBesidesRun.receivesInside {s t : State} (g : SameBesidesRun s t) (h : s.receivesInside) : t.receivesInside := by
  simpa only [State.receivesInside, payloadFits, g.desc, g.bufSize] using h

theorem storeReceived_bufferForm {s : State} (h : s.bufferForm) (hin : s.storesInside) : (storeReceived s).bufferForm := by
  unfold storeReceived
  split
  next hdir => exact bufWrite_bufferForm h (hin hdir) _
  next => exact h
  next => exact h
  next => exact h

/-! ## Runs of frames -/

theorem receiveByte_bufferForm {s : State} (h : s.bufferForm) (hin : s.storesInside) (more : Bool) :
    (receiveByte more s).bufferForm := by
  have hload : SameBesidesFrames s (dirOp .input (setMakb more s)) := .of_eq rfl
  obtain ⟨-, -, hslots, -, -⟩ := receiveSlots_env (dirOp .input (setMakb more s)) dataSlots rfl
  have hdata : SameBesidesFrames s (dirOp .output (dataSlots.foldl receiveSlot (dirOp .input (setMakb more s)))) :=
    (hload.trans hslots).trans (.of_eq rfl)
  have hstored := storeReceived_bufferForm (hdata.bufferForm h) (hdata.storesInside hin)
  simp only [receiveByte]
  rw [sakSlot_eq, makSlot_eq]
  exact hstored.congr rfl rfl

theorem sendBuffer_host (data : State → Nat → Byte) (n : Nat) (terminate : Bool) (left : Nat) (s : State) :
    (sendBuffer data n terminate left s).host = s.host := by
  induction left generalizing s with
  | zero => rfl
  | succ left ih =>
    simp only [sendBuffer]
    split
    · rw [ih, (sendByte_frames _ _ _).host, setByteidx_host]
    · rw [raise_host, (sendByte_frames _ _ _).host, setByteidx_host]

/-- Frame `i` of a payload that fits the buffer is stored inside it. -/
theorem setByteidx_storesInside {s : State} (hin : s.receivesInside) {i : Nat} (hi : i < s.desc.plen.toNat) :
    (setByteidx i s).storesInside := by
  intro hdir
  have hfits : s.desc.pbase.toNat + s.desc.plen.toNat ≤ s.host.bufSize := by
    simpa [payloadFits] using hin hdir
  have hword : i < 2 ^ 16 := hi.trans s.desc.plen.isLt
  simp only [payloadIndex, setByteidx_desc, setByteidx_seq, setByteidx_host, BitVec.toNat_ofNat, Nat.mod_eq_of_lt hword]
  omega

theorem receiveBuffer_bufferForm {s : State} {n left : Nat} (hn : n = s.desc.plen.toNat) (hleft : left ≤ n)
    (hin : s.receivesInside) (h : s.bufferForm) : (receiveBuffer n left s).bufferForm := by
  induction left generalizing s with
  | zero => exact h
  | succ left ih =>
    have hstore : (setByteidx (n - (left + 1)) s).storesInside := setByteidx_storesInside hin (by omega)
    have hindex : (setByteidx (n - (left + 1)) s).bufferForm := h
    have hform := receiveByte_bufferForm hindex hstore (makReceive (n - (left + 1)) n)
    have hrun := (setByteidx_run (n - (left + 1)) s).trans
      (receiveByte_run (makReceive (n - (left + 1)) n) (setByteidx (n - (left + 1)) s))
    simp only [receiveBuffer]
    generalize receiveByte (makReceive (n - (left + 1)) n) (setByteidx (n - (left + 1)) s) = t at hform hrun ⊢
    split
    · exact ih (by rw [hrun.desc]; exact hn) (by omega) (hrun.receivesInside hin) hform
    · exact hform.congr rfl rfl

theorem payload_bufferForm {s : State} (hin : s.receivesInside) (h : s.bufferForm) : (payload s).bufferForm := by
  unfold payload
  split
  · exact h
  · exact h.congr (by rw [sendBuffer_host]) (by rw [sendBuffer_host])
  · exact receiveBuffer_bufferForm rfl le_rfl hin h
  · exact receiveBuffer_bufferForm rfl le_rfl hin h

theorem exchange_bufferForm {s : State} (hin : s.receivesInside) (h : s.bufferForm) : (exchange s).bufferForm := by
  have hrun := sendBuffer_run (fun u i => cmdByte u.desc.cmd i) s.desc.cmdlen.toNat s.desc.cmdterm s.desc.cmdlen.toNat s
  have hhost := sendBuffer_host (fun u i => cmdByte u.desc.cmd i) s.desc.cmdlen.toNat s.desc.cmdterm s.desc.cmdlen.toNat s
  simp only [exchange]
  generalize sendBuffer (fun u i => cmdByte u.desc.cmd i) s.desc.cmdlen.toNat s.desc.cmdterm s.desc.cmdlen.toNat s = t
    at hrun hhost ⊢
  have hform : t.bufferForm := h.congr (by rw [hhost]) (by rw [hhost])
  split
  · exact payload_bufferForm ((hrun.trans (setByteidx_run 0 t)).receivesInside hin) (hform.congr rfl rfl)
  · exact hform

theorem sendCommand_bufferForm {s : State} (h : s.bufferForm) {d : DescRegs} (hin : (setDesc d s).receivesInside) :
    (sendCommand d s).bufferForm := by
  have hok : (setOk true (setDesc d s)).receivesInside := hin
  exact exchange_bufferForm hok (h.congr rfl rfl)

theorem sendBufferedCommand_bufferForm {s : State} (h : s.bufferForm) (d : DescRegs) :
    OnNext State.bufferForm (sendBufferedCommand d s) := by
  unfold sendBufferedCommand
  split
  next hfits => exact sendCommand_bufferForm h fun _ => hfits
  next => trivial

/-! ## Operations -/

theorem transaction_bufferForm {s : State} (hin : s.receivesInside) (h : s.bufferForm) : (transaction s).bufferForm := by
  have hrun := leadIn_run (setOk true s)
  have hhost : (leadIn (setOk true s)).host = s.host := by
    unfold leadIn
    split <;> rfl
  unfold transaction
  generalize leadIn (setOk true s) = t at hrun hhost ⊢
  have hlead : t.bufferForm := h.congr (by rw [hhost]) (by rw [hhost])
  have hmasked : (csEnter t).bufferForm := hlead.congr rfl rfl
  have hmaskedIn : (csEnter t).receivesInside := hrun.receivesInside hin
  have hheader := startHeader_frames (csEnter t)
  generalize startHeader (csEnter t) = u at hheader ⊢
  exact (exchange_bufferForm (hheader.run.receivesInside hmaskedIn) (hheader.bufferForm hmasked)).congr rfl rfl

theorem transaction_receivesInside {s : State} (hin : s.receivesInside) : (transaction s).receivesInside := by
  obtain ⟨-, -, hdesc, -, -, -, -, -, -, -, -, -, hsize⟩ := transaction_run s
  simpa only [State.receivesInside, payloadFits, hdesc, hsize] using hin

/-- `read` alone receives into the buffer (43_device_operations.md R201). -/
theorem enter_receivesInside {op : DevOp} (hop : op ≠ .read) (s : State) : (enter op s).receivesInside := by
  intro hdir
  cases op with
  | read => exact absurd rfl hop
  | startWrite | enableWrite | disableWrite | readStatus | writeStatus | await => cases hdir

theorem pollLoop_bufferForm (fuel : Nat) {s : State} (hin : s.receivesInside) (h : s.bufferForm) :
    (pollLoop fuel s).bufferForm := by
  induction fuel generalizing s with
  | zero => exact h
  | succ fuel ih =>
    have ht := transaction_bufferForm hin h
    simp only [pollLoop]
    split
    · exact ih (transaction_receivesInside hin) ht
    · exact ht

theorem runPolls_bufferForm {s : State} (h : s.bufferForm) : (runPolls s).bufferForm := by
  have hopen : (awaitOpen s).receivesInside := enter_receivesInside (op := .await) (by decide) s
  exact pollLoop_bufferForm _ hopen (h.congr rfl rfl)

/-- A transaction of an operation that receives nothing into the buffer. -/
theorem enter_transaction_bufferForm {op : DevOp} (hop : op ≠ .read) {s : State} (h : s.bufferForm) :
    (transaction (enter op s)).bufferForm :=
  transaction_bufferForm (enter_receivesInside hop s) (h.congr rfl rfl)

theorem runChunk_bufferForm {s : State} (h : s.bufferForm) : (runChunk s).bufferForm := by
  have htake : (takeChunk s).bufferForm := h.congr rfl rfl
  have henable := enter_transaction_bufferForm (op := .enableWrite) (by decide) htake
  simp only [runChunk]
  generalize transaction (enter .enableWrite (takeChunk s)) = t at henable ⊢
  have hwrite := enter_transaction_bufferForm (op := .startWrite) (by decide) henable
  split
  · split
    · split
      · exact runPolls_bufferForm hwrite
      · exact hwrite
    · exact henable.congr rfl rfl
  · exact henable

theorem chunkLoop_bufferForm (fuel : Nat) {s : State} (h : s.bufferForm) : (chunkLoop fuel s).bufferForm := by
  induction fuel generalizing s with
  | zero => exact h.congr rfl rfl
  | succ fuel ih =>
    have hchunk := runChunk_bufferForm h
    simp only [chunkLoop]
    generalize runChunk s = t at hchunk ⊢
    split
    · exact h.congr rfl rfl
    · split
      · exact hchunk.congr rfl rfl
      · split
        · exact hchunk.congr rfl rfl
        · exact ih (hchunk.congr rfl rfl)

theorem runRead_bufferForm {s : State} (h : s.bufferForm) : OnNext State.bufferForm (runRead s) := by
  have henter : (enter .read (loadAddress s)).bufferForm := h.congr rfl rfl
  simp only [runRead]
  split
  next hfits => exact (transaction_bufferForm (fun _ => hfits) henter).congr rfl rfl
  next => trivial

theorem runStartWrite_bufferForm {s : State} (h : s.bufferForm) : OnNext State.bufferForm (runStartWrite s) := by
  have hload : (loadWriteOperands s).bufferForm := h.congr rfl rfl
  have hwrite := enter_transaction_bufferForm (op := .startWrite) (by decide) hload
  simp only [runStartWrite]
  split
  · split
    · exact hwrite.congr rfl rfl
    · trivial
  · exact hload.congr rfl rfl

theorem runPlain_bufferForm {op : DevOp} (hop : op ≠ .read) {s : State} (h : s.bufferForm) :
    OnNext State.bufferForm (runPlain op s) :=
  (enter_transaction_bufferForm hop h).congr rfl rfl

theorem runAwait_bufferForm {s : State} (h : s.bufferForm) : OnNext State.bufferForm (runAwait s) := by
  have hpolls := runPolls_bufferForm h
  show (if stillPolling (runPolls s) then suspend (runPolls s) else complete (runPolls s)).bufferForm
  generalize runPolls s = t at hpolls ⊢
  split <;> exact hpolls.congr rfl rfl

theorem runSimpleWrite_bufferForm {s : State} (h : s.bufferForm) : OnNext State.bufferForm (runSimpleWrite s) := by
  have hload : (loadPagedOperands s).bufferForm := h.congr rfl rfl
  simp only [runSimpleWrite]
  split
  · exact chunkLoop_bufferForm _ hload
  · trivial

theorem hostRequest_bufferForm (i : Instr) {operation : State → Host.Outcome State Fault Refusal}
    (hop : ∀ {s : State}, s.bufferForm → OnNext State.bufferForm (operation s)) {s : State} (h : s.bufferForm) :
    OnNext State.bufferForm (hostRequest i operation s) :=
  hostRequest_onNext h (fun _ => hop (h.congr rfl rfl)) (h.congr rfl rfl)

theorem reservedRequest_bufferForm (i : Instr) {s : State} (h : s.bufferForm) :
    OnNext State.bufferForm (reservedRequest i s) := by
  unfold reservedRequest
  split <;> exact h.congr rfl rfl

theorem execInit_bufferForm {s : State} (h : s.bufferForm) : OnNext State.bufferForm (execInit s) := by
  unfold execInit
  split <;> exact h.congr rfl rfl

/-- Every instruction keeps the form of the buffer. -/
theorem exec_bufferForm (i : Instr) {s : State} (h : s.bufferForm) : OnNext State.bufferForm (exec i s) := by
  have hplain : ∀ op j, op ≠ .read → OnNext State.bufferForm (hostRequest j (runPlain op) s) :=
    fun op j hop => hostRequest_bufferForm j (fun h => runPlain_bufferForm hop h) h
  have hheader : (startHeader s).bufferForm := (startHeader_frames s).bufferForm h
  have hslot : ∀ w, (exchangeBit w s).bufferForm := fun w => (exchangeBit_frames w s).bufferForm h
  cases i with
  | init => exact execInit_bufferForm h
  | read dev offset length => exact hostRequest_bufferForm _ runRead_bufferForm h
  | startWrite dev offset length => exact hostRequest_bufferForm _ runStartWrite_bufferForm h
  | enableWrite dev => exact hplain .enableWrite _ (by decide)
  | disableWrite dev => exact hplain .disableWrite _ (by decide)
  | readStatus dev => exact hplain .readStatus _ (by decide)
  | writeStatus dev status => exact hplain .writeStatus _ (by decide)
  | awaitWriteComplete dev => exact hostRequest_bufferForm _ runAwait_bufferForm h
  | simpleWrite dev offset length => exact hostRequest_bufferForm _ runSimpleWrite_bufferForm h
  | reserved9 | reserved10 | reserved11 | reserved12 | reserved13 | reserved14 | reserved15 =>
    exact reservedRequest_bufferForm _ h
  | wireRead dev hi lo => exact sendBufferedCommand_bufferForm h _
  | wireWrite dev hi lo => exact sendBufferedCommand_bufferForm h _
  | wireWren dev => exact sendCommand_bufferForm h nofun
  | wireWrdi dev => exact sendCommand_bufferForm h nofun
  | wireRdsr dev => exact sendCommand_bufferForm h nofun
  | wireWrsr dev status => exact sendCommand_bufferForm h nofun
  | crrd => trivial
  | eral => trivial
  | setal => trivial
  | startHeader => exact hheader
  | bit1 => exact hslot true
  | bit0 => exact hslot false

/-! ## The step -/

theorem PhaseMove.bufferForm {s t : State} (g : PhaseMove s t) (h : s.bufferForm) : t.bufferForm := by
  have hsettled := g.settled
  simp only [State.settled, Prod.mk.injEq] at hsettled
  obtain ⟨-, -, hbuf, hsize⟩ := hsettled
  exact h.congr hbuf hsize

/-- A received frame of a state of the machine's is stored inside the buffer. -/
theorem State.Inv.storesInside {s : State} (h : s.Inv) (hrx : isReceiving s = true) : s.storesInside := by
  intro hdir
  have hphase : s.seq.phase = .rxFrame := by simpa [isReceiving] using hrx
  obtain ⟨hadmitted, -, -⟩ := h.payloadAdmitted
  obtain ⟨-, hcounter⟩ := h.countersInRange
  have hindex : s.seq.byteidx.toNat < s.desc.plen.toNat := hcounter (.inr hphase)
  obtain ⟨-, hfits⟩ := hadmitted (by rw [hphase]; rfl) (by rw [hphase]; decide)
  have hsize : s.desc.pbase.toNat + s.desc.plen.toNat ≤ s.host.bufSize := by
    simpa [payloadFits] using hfits (.inr hdir)
  simp only [payloadIndex]
  omega

theorem EngineMove.bufferForm {s t : State} (g : EngineMove s t) (h : s.Inv) (hrun : s.underWay) : t.bufferForm := by
  have hform := h.bufferForm
  cases g with
  | phase g => exact g.bufferForm hform
  | frame g hframe =>
    cases g with
    | stays g => exact g.bufferForm hform
    | ends u g ht =>
      subst ht
      have hend := frameEnd_move (g.underWay hrun) (by rw [g.seq]; exact hframe)
      exact hend.bufferForm (g.bufferForm hform)
    | stores u g hrx ht =>
      exact ht.bufferForm (storeReceived_bufferForm (g.bufferForm hform) (g.storesInside (h.storesInside hrx)))
  | completes ht => subst ht; exact hform.congr rfl rfl
  | command i u hframe hi hu ht =>
    subst ht
    exact ((exec_bufferForm i hform).of_eq hu).congr rfl rfl

theorem StepMove.bufferForm {s t : State} (g : StepMove s t) (h : s.Inv) : t.bufferForm := by
  have hform := h.bufferForm
  cases g with
  | rests ht => subst ht; exact hform
  | engine hrun g => exact g.bufferForm h hrun
  | request i hi ht => exact (exec_bufferForm i hform).of_eq ht
  | pulse hbusy ht => subst ht; exact hform.congr rfl rfl
  | writesReg r v hbusy ht => subst ht; exact hform.congr rfl rfl
  | writesIe v hbusy ht => subst ht; exact hform.congr rfl rfl
  | writesBuf i v hbusy hi ht => subst ht; exact bufWrite_bufferForm hform hi v
  | resets ht => subst ht; exact hform.congr rfl rfl

/-- Settles O56: the only writes to the buffer are the host's, checked against its size, and a received byte's, inside it by
the invariant or by the check before the command. -/
theorem bufferKept : Obligations.BufferKept := fun _ _ hinv hstep =>
  ((step_stepMove hinv).of_eq hstep).bufferForm (popMove_inv hinv)

end Sys2Proof.Machine

/-! PROOF. The host's moves (10_state.md R62; 45_sequencer_fsm.md R233; 70_reset_and_hazards.md R290), and the state after
reset (10_state.md R59; 70_reset_and_hazards.md R291). -/

namespace Sys2Proof.Machine

/-! ## The host's moves -/

theorem step_of_moves {s : State} {m : HostMove} {rest : List HostMove} (h : s.env.moves = m :: rest) :
    step s = hostMove m { s with env := { s.env with moves := rest } } := by
  simp [step, oneStep, nextMove, popMove, h]

theorem hostWrite_idle {s : State} (h : s.res.busy = false) (t : State) : hostWrite s t = .next t := by
  simp [hostWrite, h]

theorem hostWrite_busy {s : State} (h : s.res.busy = true) (t : State) : hostWrite s t = .refused .hostWriteWhileBusy := by
  simp [hostWrite, h]

theorem hostStartPulse_idle {s : State} (h : s.res.busy = false) : hostStartPulse s = .next (pulseStart s) := by
  simp [hostStartPulse, h]

theorem hostStartPulse_busy {s : State} (h : s.res.busy = true) : hostStartPulse s = .next s := by
  simp [hostStartPulse, h]

theorem step_writeBuf {s : State} {i : Nat} {v : Byte} {rest : List HostMove} (h : s.env.moves = .writeBuf i v :: rest)
    (hi : i < s.host.bufSize) :
    step s = hostWrite { s with env := { s.env with moves := rest } }
      (bufWrite i v { s with env := { s.env with moves := rest } }) :=
  (step_of_moves h).trans (if_pos hi)

/-- Settles O10: the step is the move at the head of the queue, and each move by whether the engine is busy. -/
theorem hostMoves : Obligations.HostMoves := by
  intro s rest
  refine ⟨?writesReg, ?writesIe, ?writesBuf, ?refused, ?resets, ?pulse, ?pulseIgnored, ?tick, ?waits⟩
  case writesReg =>
    intro r v hmoves hbusy
    exact (step_of_moves hmoves).trans (hostWrite_idle hbusy _)
  case writesIe =>
    intro v hmoves hbusy
    exact (step_of_moves hmoves).trans (hostWrite_idle hbusy _)
  case writesBuf =>
    intro i v hmoves hbusy hi
    exact (step_writeBuf hmoves hi).trans (hostWrite_idle hbusy _)
  case refused =>
    intro m hmoves hbusy hwrite
    obtain ⟨r, v, rfl⟩ | ⟨v, rfl⟩ | ⟨i, v, rfl, hi⟩ := hwrite
    · exact (step_of_moves hmoves).trans (hostWrite_busy hbusy _)
    · exact (step_of_moves hmoves).trans (hostWrite_busy hbusy _)
    · exact (step_writeBuf hmoves hi).trans (hostWrite_busy hbusy _)
  case resets => exact step_of_moves
  case pulse =>
    intro hmoves hbusy
    exact (step_of_moves hmoves).trans (hostStartPulse_idle hbusy)
  case pulseIgnored =>
    intro hmoves hbusy
    exact (step_of_moves hmoves).trans (hostStartPulse_busy hbusy)
  case tick => exact step_of_moves
  case waits =>
    intro hwait hidle
    show hostMove (nextMove s) (popMove s) = .next (popMove s)
    rw [hwait]
    exact engineStep_idle hidle

/-! ## After reset -/

/-- Settles O11: the registers by the definition of the state after reset; a released line that nobody drives is pulled up. -/
theorem resetValues : Obligations.ResetValues := by
  refine ⟨rfl, rfl, rfl, rfl, rfl, rfl, rfl, rfl, fun e he => ?_⟩
  have hwire : wireLevel { State.reset with env := e } = releasedLevel (envDrive e 0) := resolveWire_input _ _ _
  rw [hwire, he]
  rfl

/-- Settles O51: the engine is idle and not initialised, the line rests high and the buffer lists nothing, so that each clause
about a phase of an operation has nothing to say. -/
theorem resetInv : Obligations.ResetInv where
  handshake := ⟨by decide, by decide⟩
  initFirst := fun _ => .inl rfl
  slotsRest := ⟨fun _ => rfl, rfl⟩
  lineDriven := nofun
  slotLevel := nofun
  lineHigh := fun _ => rfl
  exchangeMasked := nofun
  descriptorLoaded := nofun
  payloadAdmitted := ⟨nofun, nofun, nofun⟩
  bufferForm := ⟨reset_buffer_wf, nofun⟩
  countersInRange := ⟨nofun, fun h => by cases h <;> contradiction⟩
  chunksInStep := nofun
  okWhileRunning := .inl rfl

end Sys2Proof.Machine

/-! PROOF. Payloads that do not fit the buffer (20_memory.md R71): refused before anything is on the wire. -/

namespace Sys2Proof.Machine

/-! ## The test, and the byte count of a WRITE -/

theorem payloadFits_eq_false {s : State} (h : s.host.bufSize < s.desc.pbase.toNat + s.desc.plen.toNat) :
    payloadFits s = false :=
  decide_eq_false (Nat.not_le.mpr h)

/-- Outside `simple_write` a WRITE sends `LENGTH` bytes (45_sequencer_fsm.md R235). -/
theorem writeCount_of_opsel_ne {s : State} (h : s.opnd.opsel ≠ 8#4) : writeCount s = s.opnd.length := if_neg h

/-! ## Commands and operations whose payload does not fit -/

theorem sendBufferedCommand_refused {d : DescRegs} {s : State} (h : s.host.bufSize < d.pbase.toNat + d.plen.toNat) :
    sendBufferedCommand d s = .refused (.bufferRange (d.pbase.toNat + d.plen.toNat - 1)) := by
  have hfits : payloadFits (setDesc d s) = false := payloadFits_eq_false h
  simp [sendBufferedCommand, hfits]

theorem runRead_refused {s : State} (h : s.host.bufSize < s.opnd.length.toNat) :
    runRead s = .refused (.bufferRange (s.opnd.length.toNat - 1)) := by
  have hlen : (enter .read (loadAddress s)).desc.plen = s.opnd.length := rfl
  have hfits : payloadFits (enter .read (loadAddress s)) = false :=
    payloadFits_eq_false (h.trans_eq (Nat.zero_add _).symm)
  simp only [runRead, hlen, hfits, Bool.false_eq_true, if_false]

/-- `start_write` looks at the buffer only once its page check has passed (43_device_operations.md R196). -/
theorem runStartWrite_refused {s : State} (hop : s.opnd.opsel ≠ 8#4)
    (hpage : s.opnd.offset.toNat % 16 + s.opnd.length.toNat ≤ 16) (h : s.host.bufSize < s.opnd.length.toNat) :
    runStartWrite s = .refused (.bufferRange (s.opnd.length.toNat - 1)) := by
  have hlen : (enter .startWrite (loadWriteOperands s)).desc.plen = s.opnd.length := writeCount_of_opsel_ne hop
  have hpasses : fitsPage s.opnd.offset s.opnd.length.toNat = true := decide_eq_true hpage
  have hfits : payloadFits (enter .startWrite (loadWriteOperands s)) = false := by
    apply payloadFits_eq_false
    rw [hlen]
    exact h.trans_eq (Nat.zero_add _).symm
  simp only [runStartWrite, hlen, enter_orch, loadWriteOperands_orch, hpasses, hfits, if_true, Bool.false_eq_true, if_false]

theorem runSimpleWrite_refused {s : State} (h : s.host.bufSize < s.opnd.length.toNat) :
    runSimpleWrite s = .refused (.bufferRange (s.opnd.length.toNat - 1)) :=
  if_neg (Nat.not_le.mpr h)

/-! ## The requests -/

/-- A request in a ready state runs its operation on the presented operands (43_device_operations.md R204). -/
theorem hostRequest_ready {s : State} (h : s.ready) (i : Instr) (operation : State → Host.Outcome State Fault Refusal) :
    hostRequest i operation s = operation (start (present i) s) := by
  obtain ⟨hbusy, hinited⟩ := h
  simp [hostRequest, hbusy, hinited]

/-- Settles O30: the descriptor a command or an operation loads asks for more bytes than the buffer has, and each of the five
tests that before its first primitive; `start_write` after its page check. -/
theorem bufferRangeRefused : Obligations.BufferRangeRefused := by
  intro dev hi lo offset length s
  refine ⟨?wireRead, ?wireWrite, fun hready hlong => ⟨?read, fun hpage => ?startWrite, ?simpleWrite⟩⟩
  case wireRead =>
    intro hlong
    have hspan : (descRead s dev hi lo).pbase.toNat + (descRead s dev hi lo).plen.toNat = s.opnd.length.toNat :=
      Nat.zero_add _
    exact hspan ▸ sendBufferedCommand_refused (hlong.trans_eq hspan.symm)
  case wireWrite => exact sendBufferedCommand_refused (d := descWrite s dev hi lo)
  case read => exact (hostRequest_ready hready _ _).trans (runRead_refused hlong)
  case startWrite =>
    have hop : (2#4 : BitVec 4) ≠ 8#4 := by decide
    exact (hostRequest_ready hready _ _).trans (runStartWrite_refused hop hpage hlong)
  case simpleWrite => exact (hostRequest_ready hready _ _).trans (runSimpleWrite_refused hlong)

end Sys2Proof.Machine

/-! PROOF. The encoder and the decoder (30_encoding.md R100 to R124): what the decoder reads from a table word of each length,
and that it undoes the encoder. -/

namespace Sys2Proof

/-! ## Words and their bytes -/

theorem two_pow_bytes_succ (n : Nat) : 2 ^ (8 * (n + 1)) = 2 ^ (8 * n) * 2 ^ 8 := by
  rw [Nat.mul_succ, Nat.pow_add]

theorem natOfBytes_foldl (bytes : List Byte) (n : Nat) :
    bytes.foldl (fun n b => 256 * n + b.toNat) n = n * 2 ^ (8 * bytes.length) + natOfBytes bytes := by
  induction bytes generalizing n with
  | nil => simp [natOfBytes]
  | cons b bytes ih =>
    simp only [natOfBytes, List.foldl_cons, List.length_cons, two_pow_bytes_succ]
    rw [ih, ih (256 * 0 + b.toNat)]
    ring

theorem natOfBytes_cons (b : Byte) (bytes : List Byte) :
    natOfBytes (b :: bytes) = b.toNat * 2 ^ (8 * bytes.length) + natOfBytes bytes := by
  simpa [natOfBytes] using natOfBytes_foldl bytes b.toNat

theorem natOfBytes_lt (bytes : List Byte) : natOfBytes bytes < 2 ^ (8 * bytes.length) := by
  induction bytes with
  | nil => simp [natOfBytes]
  | cons b bytes ih =>
    rw [natOfBytes_cons, List.length_cons, two_pow_bytes_succ, Nat.mul_comm b.toNat]
    exact Nat.lt_of_lt_of_le (Nat.add_lt_add_left ih _) (Nat.mul_le_mul_left _ b.isLt)

/-- Only the `n` low bytes count. -/
theorem bytesOfNat_mod (n w : Nat) : bytesOfNat n (w % 2 ^ (8 * n)) = bytesOfNat n w := by
  induction n generalizing w with
  | zero => rfl
  | succ n ih =>
    have hhead : BitVec.ofNat 8 (w % 2 ^ (8 * (n + 1)) / 2 ^ (8 * n)) = BitVec.ofNat 8 (w / 2 ^ (8 * n)) := by
      rw [two_pow_bytes_succ, Nat.mod_mul_right_div_self]
      exact BitVec.eq_of_toNat_eq (by simp)
    have htail : w % 2 ^ (8 * (n + 1)) % 2 ^ (8 * n) = w % 2 ^ (8 * n) :=
      Nat.mod_mod_of_dvd _ (by rw [two_pow_bytes_succ]; exact Nat.dvd_mul_right ..)
    rw [bytesOfNat, hhead, ← ih, htail, ih, bytesOfNat]

theorem bytesOfNat_natOfBytes (bytes : List Byte) : bytesOfNat bytes.length (natOfBytes bytes) = bytes := by
  induction bytes with
  | nil => rfl
  | cons b bytes ih =>
    have hrest := natOfBytes_lt bytes
    rw [natOfBytes_cons, List.length_cons, bytesOfNat, ← bytesOfNat_mod, Nat.mul_comm b.toNat, Nat.mul_add_mod,
      bytesOfNat_mod, ih, Nat.mul_add_div (by positivity), Nat.div_eq_of_lt hrest, Nat.add_zero, BitVec.ofNat_toNat,
      BitVec.setWidth_eq]

/-! ## Fields of a word -/

theorem joinBytes_hiByte_loByte (h : Half) : joinBytes (hiByte h) (loByte h) = h := by
  simp only [joinBytes, hiByte, loByte]
  ext i hi
  rw [BitVec.getElem_append]
  by_cases hlo : i < 8
  · simp [hlo, BitVec.getLsbD_eq_getElem, hi]
  · simp [hlo, BitVec.getLsbD_eq_getElem, hi, show 8 + (i - 8) = i by omega]

theorem joinBytes_ofNat (w : Nat) : joinBytes (BitVec.ofNat 8 (w / 2 ^ 8)) (BitVec.ofNat 8 w) = BitVec.ofNat 16 w := by
  apply BitVec.eq_of_toNat_eq
  simp only [joinBytes, BitVec.toNat_append, BitVec.toNat_ofNat, Nat.shiftLeft_eq]
  rw [Nat.mul_comm, ← Nat.two_pow_add_eq_or_of_lt (Nat.mod_lt _ (by decide))]
  omega

/-- The operands of a request word where R124 places them. -/
def requestOf (w : Nat) : Instr :=
  decodeRequest (BitVec.ofNat 4 (w / 2 ^ 48)) (BitVec.ofNat 8 (w / 2 ^ 40)) (BitVec.ofNat 16 (w / 2 ^ 24))
    (BitVec.ofNat 16 (w / 2 ^ 8)) (BitVec.ofNat 8 w)

theorem decode_requestWord {w : Nat} (hw : w < 2 ^ 52) : decode (bytesOfNat 7 w) = .ok (requestOf w) := by
  have htop : (BitVec.ofNat 8 (w / 2 ^ 48)).extractLsb' 4 4 = 0#4 := by
    apply BitVec.eq_of_toNat_eq
    simp [Nat.shiftRight_eq_div_pow]
    omega
  have hopsel : (BitVec.ofNat 8 (w / 2 ^ 48)).extractLsb' 0 4 = BitVec.ofNat 4 (w / 2 ^ 48) := by
    apply BitVec.eq_of_toNat_eq
    simp
  have hoffset := joinBytes_ofNat (w / 2 ^ 24)
  have hlength := joinBytes_ofNat (w / 2 ^ 8)
  rw [Nat.div_div_eq_div_mul, ← Nat.pow_add] at hoffset hlength
  simp only [bytesOfNat, decode, requestOf, ← hoffset, ← hlength, htop, hopsel, if_true, Nat.mul_zero, Nat.pow_zero,
    Nat.div_one, Nat.reduceMul, Nat.reduceAdd]

/-- Seven bytes that decode are a word of 52 bits (R124). -/
theorem requestWord_lt {w : Nat} {i : Instr} (hw : w < 2 ^ 56) (h : decode (bytesOfNat 7 w) = .ok i) : w < 2 ^ 52 := by
  simp only [bytesOfNat, decode] at h
  split at h
  next htop =>
    have hnibble := congrArg BitVec.toNat htop
    simp [Nat.shiftRight_eq_div_pow] at hnibble
    omega
  next => cases h

/-! ## Decoding undoes encoding -/

theorem decode_requestBytes (opsel : BitVec 4) (dev : Byte) (offset length : Half) (status : Byte) :
    decode (requestBytes opsel dev offset length status) = .ok (decodeRequest opsel dev offset length status) := by
  have htop : (0#4 ++ opsel).extractLsb' 4 4 = 0#4 := by revert opsel; decide
  have hopsel : (0#4 ++ opsel).extractLsb' 0 4 = opsel := by revert opsel; decide
  simp only [requestBytes, decode, htop, hopsel, joinBytes_hiByte_loByte, if_true]

theorem decode_encode (i : Instr) : decode (encode i) = .ok i := by
  cases i with
  | init | read | startWrite | enableWrite | disableWrite | readStatus | writeStatus | awaitWriteComplete | simpleWrite
  | reserved9 | reserved10 | reserved11 | reserved12 | reserved13 | reserved14 | reserved15 => exact decode_requestBytes ..
  | wireRead | wireWrite | wireWren | wireWrdi | wireRdsr | wireWrsr | crrd | eral | setal | startHeader | bit1 | bit0 => rfl

theorem encodedLength (i : Instr) : tableBytes (8 * (encode i).length) = (encode i).length := by
  cases i with
  | init | read | startWrite | enableWrite | disableWrite | readStatus | writeStatus | awaitWriteComplete | simpleWrite
  | reserved9 | reserved10 | reserved11 | reserved12 | reserved13 | reserved14 | reserved15 =>
    exact Laws.EncodedLength.length_seven
  | wireRead | wireWrite => exact Laws.EncodedLength.length_four
  | wireWrsr => exact Laws.EncodedLength.length_three
  | wireWren | wireWrdi | wireRdsr => exact Laws.EncodedLength.length_two
  | crrd | eral | setal | startHeader | bit1 | bit0 => exact Laws.EncodedLength.length_one

/-- A word that fits the row's bytes decodes as those bytes do. -/
theorem decodeTableWord_of_lt {nbits w : Nat} (hw : w < 2 ^ (8 * tableBytes nbits)) :
    decodeTableWord nbits w = (decode (bytesOfNat (tableBytes nbits) w)).toOption := by
  rw [decodeTableWord, if_pos hw]
  cases decode (bytesOfNat (tableBytes nbits) w) <;> rfl

theorem decodeTableWord_eq_some {nbits w : Nat} {i : Instr} (h : decodeTableWord nbits w = some i) :
    w < 2 ^ (8 * tableBytes nbits) ∧ decode (bytesOfNat (tableBytes nbits) w) = .ok i := by
  by_cases hw : w < 2 ^ (8 * tableBytes nbits)
  · rw [decodeTableWord_of_lt hw] at h
    refine ⟨hw, ?_⟩
    cases hd : decode (bytesOfNat (tableBytes nbits) w) with
    | ok j => rw [hd] at h; cases h; rfl
    | error r => rw [hd] at h; cases h
  · rw [decodeTableWord, if_neg hw] at h
    cases h

/-- Settles O2: the request word's fields and the wire formats' opcodes come back, and a list of bytes is the bytes of its
number. -/
theorem decodeOfEncode : Obligations.DecodeOfEncode := by
  intro i
  refine ⟨decode_encode i, ?_⟩
  have hfits : natOfBytes (encode i) < 2 ^ (8 * tableBytes (8 * (encode i).length)) := by
    rw [encodedLength]
    exact natOfBytes_lt _
  rw [decodeTableWord_of_lt hfits, encodedLength, bytesOfNat_natOfBytes, decode_encode]
  rfl

/-- Settles O6: the request word of the presented registers is the encoding of fields the request reads back. -/
theorem fetchPresented : Obligations.FetchPresented := by
  intro i s hi
  refine (decode_requestBytes ..).trans ?_
  cases i with
  | wireRead | wireWrite | wireWren | wireWrdi | wireRdsr | wireWrsr | crrd | eral | setal | startHeader | bit1 | bit0 =>
    cases hi
  | _ => rfl

/-! ## What a table word of each length decodes to -/

theorem decodeTableWord_request {w : Nat} (hw : w < 2 ^ 52) : decodeTableWord 52 w = some (requestOf w) := by
  have hbytes : tableBytes 52 = 7 := by decide
  rw [decodeTableWord_of_lt (by rw [hbytes]; omega), hbytes, decode_requestWord hw]
  rfl

theorem decodeTableWord_c4 {w : Nat} (hw : w < 2 ^ 32) :
    decodeTableWord 32 w =
      (decodeC4 (BitVec.ofNat 8 (w / 2 ^ 24)) (BitVec.ofNat 8 (w / 2 ^ 16)) (BitVec.ofNat 8 (w / 2 ^ 8))
        (BitVec.ofNat 8 w)).toOption := by
  rw [decodeTableWord_of_lt hw]
  simp [tableBytes, bytesOfNat, decode]

theorem decodeTableWord_c3 {w : Nat} (hw : w < 2 ^ 24) :
    decodeTableWord 24 w =
      (decodeC3 (BitVec.ofNat 8 (w / 2 ^ 16)) (BitVec.ofNat 8 (w / 2 ^ 8)) (BitVec.ofNat 8 w)).toOption := by
  rw [decodeTableWord_of_lt hw]
  simp [tableBytes, bytesOfNat, decode]

theorem decodeTableWord_c2 {w : Nat} (hw : w < 2 ^ 16) :
    decodeTableWord 16 w = (decodeC2 (BitVec.ofNat 8 (w / 2 ^ 8)) (BitVec.ofNat 8 w)).toOption := by
  rw [decodeTableWord_of_lt hw]
  simp [tableBytes, bytesOfNat, decode]

/-- One byte, for the rows of eight bits and of four (log 29). -/
theorem decodeTableWord_byte {nbits w : Nat} (hbytes : tableBytes nbits = 1) (hw : w < 2 ^ 8) :
    decodeTableWord nbits w = (decodeByte (BitVec.ofNat 8 w)).toOption := by
  rw [decodeTableWord_of_lt (by rw [hbytes]; exact hw), hbytes]
  simp [bytesOfNat, decode]

theorem ofNat_eq_byte {w v : Nat} (hv : v < 2 ^ 8) : BitVec.ofNat 8 w = BitVec.ofNat 8 v ↔ w % 2 ^ 8 = v := by
  rw [← BitVec.toNat_inj, BitVec.toNat_ofNat, BitVec.toNat_ofNat, Nat.mod_eq_of_lt hv]

/-- Settles O4: the fields are the bytes of the word. -/
theorem operandFields : Obligations.OperandFields := by
  refine ⟨fun w hw => decodeTableWord_request hw, fun w hw => ⟨fun hop => ?_, fun hop => ?_⟩, fun w hw hop => ?_,
    fun w hw => ⟨fun hop => ?_, fun hop => ?_, fun hop => ?_⟩⟩
  · rw [decodeTableWord_c4 hw, (ofNat_eq_byte (by decide)).2 hop]; rfl
  · rw [decodeTableWord_c4 hw, (ofNat_eq_byte (by decide)).2 hop]; rfl
  · rw [decodeTableWord_c3 hw, (ofNat_eq_byte (by decide)).2 hop]; rfl
  · rw [decodeTableWord_c2 hw, (ofNat_eq_byte (by decide)).2 hop]; rfl
  · rw [decodeTableWord_c2 hw, (ofNat_eq_byte (by decide)).2 hop]; rfl
  · rw [decodeTableWord_c2 hw, (ofNat_eq_byte (by decide)).2 hop]; rfl

/-! ## Rows of the opcode table -/

/-- The bits that a mask of `m` ones from bit `k` on leaves. -/
theorem and_mask (w m k : Nat) : w &&& (2 ^ m - 1) <<< k = (w / 2 ^ k % 2 ^ m) <<< k := by
  apply Nat.eq_of_testBit_eq
  intro j
  by_cases hj : k ≤ j
  · simp [Nat.testBit_shiftLeft, Nat.testBit_div_two_pow, hj, Bool.and_comm]
  · simp [Nat.testBit_shiftLeft, hj]

/-- A word has a row's pattern exactly when the masked field has the pattern's value. -/
theorem hit_iff {name : String} {nbits m k v w : Nat} (hw : w < 2 ^ nbits) :
    TableRow.hit ⟨name, nbits, (2 ^ m - 1) <<< k, v <<< k⟩ w = true ↔ w / 2 ^ k % 2 ^ m = v := by
  simp only [TableRow.hit, hw, decide_true, Bool.true_and, beq_iff_eq, and_mask]
  simp [Nat.shiftLeft_eq]

/-- The row of the requests with one `OPSEL` code (R114, R115). -/
def requestRow (opsel : BitVec 4) : TableRow :=
  ⟨(decodeRequest opsel 0 0 0 0).mnemonic, 52, (2 ^ 4 - 1) <<< 48, opsel.toNat <<< 48⟩

theorem requestRows_eq : requestRows = (List.range 16).map fun k => requestRow (BitVec.ofNat 4 k) := by rfl

theorem decodeRequest_mnemonic (opsel : BitVec 4) (dev : Byte) (offset length : Half) (status : Byte) :
    (decodeRequest opsel dev offset length status).mnemonic = (decodeRequest opsel 0 0 0 0).mnemonic := by
  unfold decodeRequest
  split <;> rfl

/-- No two `OPSEL` codes share a row. -/
theorem requestMnemonic_inj : ∀ a b : BitVec 4,
    (decodeRequest a 0 0 0 0).mnemonic = (decodeRequest b 0 0 0 0).mnemonic → a = b := by decide

theorem requestRow_decodes (opsel : BitVec 4) {w : Nat} (hw : w < 2 ^ 52) :
    (decodeTableWord 52 w).map Instr.mnemonic = some (requestRow opsel).mnemonic ↔ (requestRow opsel).hit w = true := by
  have hfield : BitVec.ofNat 4 (w / 2 ^ 48) = opsel ↔ w / 2 ^ 48 % 2 ^ 4 = opsel.toNat := by
    rw [← BitVec.toNat_inj, BitVec.toNat_ofNat]
  rw [requestRow, hit_iff hw, ← hfield, decodeTableWord_request hw, Option.map_some, requestOf, decodeRequest_mnemonic,
    Option.some_inj]
  exact ⟨requestMnemonic_inj _ _, fun h => by rw [h]⟩

section
variable {name : String} {v w : Nat} (hv : v < 2 ^ 8)
include hv

theorem c4Row_decodes (hw : w < 2 ^ 32)
    (hname : ∀ dev op hi lo, (decodeC4 dev op hi lo).toOption.map Instr.mnemonic = some name ↔ op = BitVec.ofNat 8 v) :
    (decodeTableWord 32 w).map Instr.mnemonic = some name ↔
      TableRow.hit ⟨name, 32, (2 ^ 8 - 1) <<< 16, v <<< 16⟩ w = true := by
  rw [decodeTableWord_c4 hw, hname, hit_iff hw, ofNat_eq_byte hv]

theorem c3Row_decodes (hw : w < 2 ^ 24)
    (hname : ∀ dev op status, (decodeC3 dev op status).toOption.map Instr.mnemonic = some name ↔ op = BitVec.ofNat 8 v) :
    (decodeTableWord 24 w).map Instr.mnemonic = some name ↔
      TableRow.hit ⟨name, 24, (2 ^ 8 - 1) <<< 8, v <<< 8⟩ w = true := by
  rw [decodeTableWord_c3 hw, hname, hit_iff hw, ofNat_eq_byte hv]

theorem c2Row_decodes (hw : w < 2 ^ 16)
    (hname : ∀ dev op, (decodeC2 dev op).toOption.map Instr.mnemonic = some name ↔ op = BitVec.ofNat 8 v) :
    (decodeTableWord 16 w).map Instr.mnemonic = some name ↔
      TableRow.hit ⟨name, 16, (2 ^ 8 - 1) <<< 0, v <<< 0⟩ w = true := by
  rw [decodeTableWord_c2 hw, hname, hit_iff hw, ofNat_eq_byte hv, Nat.pow_zero, Nat.div_one]

theorem byteRow_decodes {nbits : Nat} (hbytes : tableBytes nbits = 1) (hbits : 2 ^ nbits ≤ 2 ^ 8) (hw : w < 2 ^ nbits)
    (hname : ∀ b, (decodeByte b).toOption.map Instr.mnemonic = some name ↔ b = BitVec.ofNat 8 v) :
    (decodeTableWord nbits w).map Instr.mnemonic = some name ↔
      TableRow.hit ⟨name, nbits, (2 ^ nbits - 1) <<< 0, v <<< 0⟩ w = true := by
  have hbyte : w < 2 ^ 8 := hw.trans_le hbits
  rw [decodeTableWord_byte hbytes hbyte, hname, hit_iff hw, ofNat_eq_byte hv, Nat.pow_zero, Nat.div_one,
    Nat.mod_eq_of_lt hbyte, Nat.mod_eq_of_lt hw]

end

/-! The opcodes of each format by the names of their rows: a decoder gives a name exactly at its opcode. -/

theorem decodeC4_mnemonic {name : String} {code : Byte} (h : (name, code) ∈ [("READ", 0x03#8), ("WRITE", 0x6C#8)])
    (dev op hi lo : Byte) : (decodeC4 dev op hi lo).toOption.map Instr.mnemonic = some name ↔ op = code := by
  simp only [List.mem_cons, List.not_mem_nil, or_false, Prod.mk.injEq] at h
  unfold decodeC4
  obtain ⟨rfl, rfl⟩ | ⟨rfl, rfl⟩ := h <;>
  split_ifs <;> simp_all [Except.toOption, Instr.mnemonic, Config.opcRead, Config.opcWrite]

theorem decodeC3_mnemonic (dev op status : Byte) :
    (decodeC3 dev op status).toOption.map Instr.mnemonic = some "WRSR" ↔ op = 0x6E#8 := by
  unfold decodeC3
  split_ifs <;> simp_all [Except.toOption, Instr.mnemonic, Config.opcWrsr]

theorem decodeC2_mnemonic {name : String} {code : Byte}
    (h : (name, code) ∈ [("WREN", 0x96#8), ("WRDI", 0x91#8), ("RDSR", 0x05#8)]) (dev op : Byte) :
    (decodeC2 dev op).toOption.map Instr.mnemonic = some name ↔ op = code := by
  simp only [List.mem_cons, List.not_mem_nil, or_false, Prod.mk.injEq] at h
  unfold decodeC2
  obtain ⟨rfl, rfl⟩ | ⟨rfl, rfl⟩ | ⟨rfl, rfl⟩ := h <;>
  split_ifs <;> simp_all [Except.toOption, Instr.mnemonic, Config.opcWren, Config.opcWrdi, Config.opcRdsr]

theorem decodeByte_mnemonic {name : String} {code : Byte}
    (h : (name, code) ∈ [("CRRD", 0x06#8), ("ERAL", 0x6D#8), ("SETAL", 0x67#8), ("START_HEADER", 0x55#8), ("BIT1", 0x03#8),
      ("BIT0", 0x0C#8)]) (b : Byte) :
    (decodeByte b).toOption.map Instr.mnemonic = some name ↔ b = code := by
  simp only [List.mem_cons, List.not_mem_nil, or_false, Prod.mk.injEq] at h
  unfold decodeByte
  obtain ⟨rfl, rfl⟩ | ⟨rfl, rfl⟩ | ⟨rfl, rfl⟩ | ⟨rfl, rfl⟩ | ⟨rfl, rfl⟩ | ⟨rfl, rfl⟩ := h <;>
  split_ifs <;> simp_all [Except.toOption, Instr.mnemonic, Config.startHeader, Config.opcCrrd, Config.opcEral,
    Config.opcSetal]

/-- The rows of the wire by their format: the opcode or the slot code is the field under the mask. -/
theorem wireRow_decodes {row : TableRow} (hrow : row ∈ wireRows) {w : Nat} (hw : w < 2 ^ row.nbits) :
    (decodeTableWord row.nbits w).map Instr.mnemonic = some row.mnemonic ↔ row.hit w = true := by
  simp only [wireRows, List.mem_cons, List.not_mem_nil, or_false] at hrow
  obtain rfl | rfl | rfl | rfl | rfl | rfl | rfl | rfl | rfl | rfl | rfl | rfl := hrow
  · exact c4Row_decodes (v := 0x03) (by decide) hw (decodeC4_mnemonic (by decide))
  · exact c4Row_decodes (v := 0x6C) (by decide) hw (decodeC4_mnemonic (by decide))
  · exact c2Row_decodes (v := 0x96) (by decide) hw (decodeC2_mnemonic (by decide))
  · exact c2Row_decodes (v := 0x91) (by decide) hw (decodeC2_mnemonic (by decide))
  · exact c2Row_decodes (v := 0x05) (by decide) hw (decodeC2_mnemonic (by decide))
  · exact c3Row_decodes (v := 0x6E) (by decide) hw decodeC3_mnemonic
  · exact byteRow_decodes (v := 0x06) (by decide) rfl (by decide) hw (decodeByte_mnemonic (by decide))
  · exact byteRow_decodes (v := 0x6D) (by decide) rfl (by decide) hw (decodeByte_mnemonic (by decide))
  · exact byteRow_decodes (v := 0x67) (by decide) rfl (by decide) hw (decodeByte_mnemonic (by decide))
  · exact byteRow_decodes (v := 0x55) (by decide) rfl (by decide) hw (decodeByte_mnemonic (by decide))
  · exact byteRow_decodes (v := 0x03) (by decide) rfl (by decide) hw (decodeByte_mnemonic (by decide))
  · exact byteRow_decodes (v := 0x0C) (by decide) rfl (by decide) hw (decodeByte_mnemonic (by decide))

/-- Settles O3: a request's row is that of its `OPSEL` code, and a wire word's that of its opcode byte. -/
theorem tableRowsDecode : Obligations.TableRowsDecode := by
  intro row hrow w hw
  obtain hrequest | hwire := List.mem_append.1 hrow
  · rw [requestRows_eq, List.mem_map] at hrequest
    obtain ⟨k, -, rfl⟩ := hrequest
    exact requestRow_decodes _ hw
  · exact wireRow_decodes hwire hw

/-! ## Words without a format -/

theorem decodeC2_ok_iff (dev op : Byte) :
    (∃ i, decodeC2 dev op = .ok i) ↔ op = 0x96#8 ∨ op = 0x91#8 ∨ op = 0x05#8 := by
  unfold decodeC2
  split_ifs <;> simp_all [Config.opcWren, Config.opcWrdi, Config.opcRdsr]

theorem decodeC3_ok_iff (dev op status : Byte) : (∃ i, decodeC3 dev op status = .ok i) ↔ op = 0x6E#8 := by
  unfold decodeC3
  split_ifs <;> simp_all [Config.opcWrsr]

theorem decodeC4_ok_iff (dev op hi lo : Byte) : (∃ i, decodeC4 dev op hi lo = .ok i) ↔ op = 0x03#8 ∨ op = 0x6C#8 := by
  unfold decodeC4
  split_ifs <;> simp_all [Config.opcRead, Config.opcWrite]

theorem decode_badLength {bytes : List Byte}
    (h : bytes.length = 0 ∨ bytes.length = 5 ∨ bytes.length = 6 ∨ 8 ≤ bytes.length) :
    decode bytes = .error (.badLength bytes.length) := by
  unfold decode
  split
  case h_6 => rfl
  all_goals simp at h

/-- Settles O5: each format's decoder knows the opcodes of its length, and a list of another length matches no format. -/
theorem unassignedRejected : Obligations.UnassignedRejected :=
  ⟨decodeC2_ok_iff, decodeC3_ok_iff, decodeC4_ok_iff, fun _ => decode_badLength⟩

/-- Settles O1: the decoder computes. -/
theorem decodesSpecWords : Obligations.DecodesSpecWords :=
  ⟨rfl, rfl, rfl, rfl, rfl, rfl, rfl, rfl, rfl, rfl, rfl, rfl, rfl, rfl, rfl, rfl⟩

end Sys2Proof

/-! PROOF. The bit slots and the reserved opcodes as instructions, and a placed word as the instruction the step fetches
(30_encoding.md R101, R102, R111; 45_sequencer_fsm.md R230, R256). -/

namespace Sys2Proof.Machine

/-! ## Slots -/

/-- On a driven line a sample is the latch, unless the environment drives the opposite level (40_bus_primitive.md R142). -/
theorem resolveWire_uncontended {lvl : Bool} {d : Drive} (h : d = none ∨ d = some lvl) (contended : Bool) :
    resolveWire .output lvl d contended = lvl := by
  obtain rfl | rfl := h
  · rfl
  · exact if_pos rfl

/-- Settles O14: a slot is `exchange_bit` of its value, its two samples resolved with the line as it stands. -/
theorem slotCompletes : Obligations.SlotCompletes := by
  intro w s
  refine ⟨firstSample w s, secondSample w s, ?_, fun hin => ?_, fun hout => ⟨fun h => ?_, fun h => ?_⟩⟩
  · rw [exec_slot, exchangeBit_eq]
    rfl
  · simp only [firstSample, secondSample, hin]
    exact ⟨rfl, rfl⟩
  · rw [firstSample, hout]
    exact resolveWire_uncontended h _
  · rw [secondSample, hout]
    exact resolveWire_uncontended h _

/-- The micro-operations of a slot, whatever its samples (40_bus_primitive.md R145). -/
theorem exchangeBit_traced (w : Bool) (s : State) : traced s (exchangeBit w s) (slotShape w) :=
  ⟨slotTrace w (firstSample w s) (secondSample w s), by rw [exchangeBit_eq], rfl⟩

/-- Settles O15: the samples of a released slot are the environment's levels, and the bit is `SB ∧ ¬SA` of them. -/
theorem slotDecoding : Obligations.SlotDecoding := by
  intro s hin
  refine ⟨exchangeBit true s, rfl, exchangeBit_traced true s, ?_, ?_, ?_, ?_, ?_, ?_⟩
  · rw [exchangeBit_eq]
    simp only [firstSample, hin]
    rfl
  · rw [exchangeBit_eq]
    simp only [secondSample, hin]
    rfl
  all_goals
    intro ha hb
    rw [observed, ha, hb]
    rfl

/-- The opcode that a device operation sends (30_encoding.md R108). -/
def DevOp.opcode : DevOp → Byte
  | .read => 0x03#8
  | .startWrite => 0x6C#8
  | .enableWrite => 0x96#8
  | .disableWrite => 0x91#8
  | .readStatus | .await => 0x05#8
  | .writeStatus => 0x6E#8

theorem descRow_opcode (op : DevOp) (s : State) : (descRow op s).cmd.c1 = op.opcode := by
  cases op <;> rfl

/-- Settles O29: the three meanings are refusals, the one-byte words decode to them, and each operation's row carries its own
opcode. -/
theorem reservedOpcodesRefused : Obligations.ReservedOpcodesRefused := by
  refine ⟨fun s => ⟨rfl, rfl, rfl⟩, by decide, fun op s => ?_⟩
  rw [descRow_opcode]
  cases op <;> decide

/-! ## The bytes of an instruction -/

theorem length_bytesOfNat (n w : Nat) : (bytesOfNat n w).length = n := by
  induction n with
  | zero => rfl
  | succ n ih => rw [bytesOfNat, List.length_cons, ih]

/-- A request is seven bytes (R124); outside the requests no field is ignored, and what decodes is the encoding. -/
theorem decode_cases {bytes : List Byte} {i : Instr} (h : decode bytes = .ok i) :
    (i.isRequest = false ∧ bytes = encode i) ∨ (i.isRequest = true ∧ bytes.length = 7) := by
  unfold decode at h
  split at h
  · left
    unfold decodeByte at h
    split_ifs at h <;> cases h <;> simp only [encode, Instr.isRequest, *, and_self]
  · left
    unfold decodeC2 at h
    split_ifs at h <;> cases h <;> simp only [encode, Instr.isRequest, *, and_self]
  · left
    unfold decodeC3 at h
    split_ifs at h
    cases h
    simp only [encode, Instr.isRequest, *, and_self]
  · left
    unfold decodeC4 at h
    split_ifs at h <;> cases h <;> simp only [encode, Instr.isRequest, *, and_self]
  · right
    split at h
    · cases h
      exact ⟨decodeRequest_isRequest .., rfl⟩
    · cases h
  · cases h

theorem eq_encode_of_decode {bytes : List Byte} {i : Instr} (h : decode bytes = .ok i) (hi : i.isRequest = false) :
    bytes = encode i := by
  obtain ⟨-, hbytes⟩ | ⟨hrequest, -⟩ := decode_cases h
  · exact hbytes
  · rw [hi] at hrequest
    cases hrequest

theorem length_of_decode_request {bytes : List Byte} {i : Instr} (h : decode bytes = .ok i) (hi : i.isRequest = true) :
    bytes.length = 7 := by
  obtain ⟨hother, -⟩ | ⟨-, hlength⟩ := decode_cases h
  · rw [hi] at hother
    cases hother
  · exact hlength

/-! ## A placed word is fetched -/

theorem step_start {s : State} (h : nextMove s = .start) : step s = hostStart (popMove s) := by
  rw [step, oneStep, h]
  rfl

theorem step_wait {s : State} (h : nextMove s = .wait) : step s = engineStep (popMove s) := by
  rw [step, oneStep, h]
  rfl

/-- The registers of a placed request hold its word (30_encoding.md R124). -/
theorem placeRequest_runs (w : Nat) (s : State) :
    step (placeRequest w s) = exec (requestOf w) (popMove (placeRequest w s)) := by
  have hidle : (popMove (placeRequest w s)).res.busy = false := rfl
  have hfetch : fetchRequest (popMove (placeRequest w s)) = .ok (requestOf w) := decode_requestBytes ..
  rw [step_start rfl, hostStart, hidle, hfetch]
  rfl

/-- At the first frame of a command the engine runs what the command buffer holds (45_sequencer_fsm.md R256). -/
theorem engineStep_command {s : State} {i : Instr} (hphase : s.seq.phase = .cmdFrame) (hstart : atCommandStart s = true)
    (hi : fetchWire s = some i) : engineStep s = andThen (exec i s) fun t => .next (setPhase .csExit t) := by
  simp only [engineStep, hphase, hstart, hi, if_true]

theorem placeCommand_runs {bytes : List Byte} {i : Instr} (s : State)
    (hi : fetchWire (popMove (placeCommand bytes s)) = some i) :
    step (placeCommand bytes s) =
      andThen (exec i (popMove (placeCommand bytes s))) fun t => .next (setPhase .csExit t) :=
  (step_wait rfl).trans (engineStep_command rfl rfl hi)

theorem placeOpcode_runs {op : Byte} {i : Instr} (s : State) (hi : fetchWire (popMove (placeOpcode op s)) = some i) :
    step (placeOpcode op s) = andThen (exec i (popMove (placeOpcode op s))) fun t => .next (setPhase .csExit t) :=
  placeCommand_runs s hi

/-- A wire command's bytes spell it in the command buffer. -/
theorem fetchWire_encode {i : Instr} (hi : i.isWire = true) (s : State) :
    fetchWire (popMove (placeCommand (encode i) s)) = some i := by
  cases i with
  | wireRead dev hi lo | wireWrite dev hi lo => rfl
  | wireWren dev | wireWrdi dev | wireRdsr dev => rfl
  | wireWrsr dev status => rfl
  | _ => cases hi

/-- The MAK slot of a frame carries `MAKB` (45_sequencer_fsm.md R246). -/
theorem placeSlot_runs (w : Bool) (s : State) :
    step (placeSlot w s) = aroundExec (if w then .bit1 else .bit0) (popMove (placeSlot w s)) := by
  rw [step_wait rfl]
  cases w <;> rfl

theorem aroundExec_request {i : Instr} (hi : i.isRequest = true) (s : State) : aroundExec i s = exec i s := by
  cases i with
  | init | read | startWrite | enableWrite | disableWrite | readStatus | writeStatus | awaitWriteComplete | simpleWrite
  | reserved9 | reserved10 | reserved11 | reserved12 | reserved13 | reserved14 | reserved15 => rfl
  | _ => cases hi

theorem aroundExec_wire {i : Instr} (hi : i.isWire = true) (s : State) :
    aroundExec i s = andThen (exec i s) fun t => .next (setPhase .csExit t) := by
  cases i with
  | wireRead | wireWrite | wireWren | wireWrdi | wireRdsr | wireWrsr => rfl
  | _ => cases hi

theorem placeWord_request {s : State} {nbits w : Nat} {i : Instr} (h : decodeTableWord nbits w = some i)
    (hi : i.isRequest = true) : placeWord s nbits w = placeRequest w s := by
  rw [placeWord, h]
  cases i with
  | init | read | startWrite | enableWrite | disableWrite | readStatus | writeStatus | awaitWriteComplete | simpleWrite
  | reserved9 | reserved10 | reserved11 | reserved12 | reserved13 | reserved14 | reserved15 => rfl
  | _ => cases hi

theorem placeWord_wire {s : State} {nbits w : Nat} {i : Instr} (h : decodeTableWord nbits w = some i)
    (hi : i.isWire = true) : placeWord s nbits w = placeCommand (encode i) s := by
  obtain ⟨-, hbytes⟩ := decodeTableWord_eq_some h
  rw [placeWord, h, eq_encode_of_decode hbytes (not_isRequest_of_isWire hi)]
  cases i with
  | wireRead | wireWrite | wireWren | wireWrdi | wireRdsr | wireWrsr => rfl
  | _ => cases hi

/-- Settles O9: a request's registers hold its word, a command's bytes its encoding, and the header and the slots stand at
their phases. -/
theorem placedWordRuns : Obligations.PlacedWordRuns := by
  intro s nbits w i h
  rw [State.withFetchWord]
  cases hrequest : i.isRequest with
  | true =>
    obtain ⟨hw, hbytes⟩ := decodeTableWord_eq_some h
    have hlength := length_of_decode_request hbytes hrequest
    rw [length_bytesOfNat] at hlength
    rw [hlength] at hw hbytes
    have hi : requestOf w = i := Except.ok.inj ((decode_requestWord (requestWord_lt hw hbytes)).symm.trans hbytes)
    rw [placeWord_request h hrequest, placeRequest_runs, hi]
    exact (aroundExec_request hrequest _).symm
  | false =>
    cases hwire : i.isWire with
    | true =>
      rw [placeWord_wire h hwire, placeCommand_runs s (fetchWire_encode hwire s)]
      exact (aroundExec_wire hwire _).symm
    | false =>
      rw [placeWord, h]
      cases i with
      | crrd => exact placeOpcode_runs (op := Config.opcCrrd) s rfl
      | eral => exact placeOpcode_runs (op := Config.opcEral) s rfl
      | setal => exact placeOpcode_runs (op := Config.opcSetal) s rfl
      | startHeader => exact step_wait rfl
      | bit1 => exact placeSlot_runs true s
      | bit0 => exact placeSlot_runs false s
      | wireRead | wireWrite | wireWren | wireWrdi | wireRdsr | wireWrsr => cases hwire
      | _ => cases hrequest

end Sys2Proof.Machine

/-! PROOF. Runs of frames on the line (30_encoding.md R103 to R107; 41_byte_framing.md R160 to R164): what one frame leaves, and
runs put together from their frames up to the first without acknowledgment. -/

namespace Sys2Proof.Machine

/-! ## Traces -/

theorem traced.of_trace_eq {s t : State} (h : t.trace = s.trace) : traced s t [] := ⟨[], by simp [h], rfl⟩

theorem traced.trans {s t u : State} {a b : List MicroOp} (h : traced s t a) (g : traced t u b) : traced s u (a ++ b) := by
  obtain ⟨x, hx, hxs⟩ := h
  obtain ⟨y, hy, hys⟩ := g
  refine ⟨x ++ y, by rw [hy, hx]; simp, ?_⟩
  rw [← hxs, ← hys]
  exact List.map_append

/-- A trace does not see the registers. -/
theorem traced.congr {s s' t t' : State} {a : List MicroOp} (h : traced s t a) (hs : s'.trace = s.trace)
    (ht : t'.trace = t.trace) : traced s' t' a := by
  simpa only [traced, hs, ht] using h

theorem dirOp_traced (d : Direction) (s : State) : traced s (dirOp d s) [.dir d] := ⟨[.dir d], rfl, rfl⟩

theorem readOneBit_traced (s : State) : traced s (readOneBit s) releasedShape :=
  ⟨_, by rw [readOneBit_eq], rfl⟩

/-! ## The answers after some frames -/

theorem driveAt_after {s t : State} {n : Nat} (h : t.env = s.env.after n) (k : Nat) : driveAt t k = driveAt s (n + k) := by
  rw [driveAt, h, envDrive_after]
  rfl

theorem ackAt_after {s t : State} {n : Nat} (h : t.env = s.env.after n) (k : Nat) : ackAt t k = ackAt s (n + k) := by
  simp only [ackAt, driveAt_after h, Nat.add_assoc]

theorem byteAt_after {s t : State} {n : Nat} (h : t.env = s.env.after n) (k : Nat) : byteAt t k = byteAt s (n + k) := by
  simp only [byteAt, dataBitAt, driveAt_after h, Nat.add_assoc]

theorem allAcked_after {s t : State} {m : Nat} (h : t.env = s.env.after (20 * m)) (first n : Nat) :
    allAcked t first n = allAcked s (m + first) n := by
  simp only [allAcked, ackAt_after h, ← Nat.mul_add, Nat.add_assoc]

theorem framesRun_after {s t : State} {m : Nat} (h : t.env = s.env.after (20 * m)) (first n : Nat) :
    framesRun t first n = framesRun s (m + first) n := by
  induction n generalizing first with
  | zero => rfl
  | succ n ih => simp only [framesRun, ackAt_after h, ih, ← Nat.mul_add, Nat.add_assoc]

theorem framesRun_congr {s t : State} (h : t.env = s.env) (first n : Nat) : framesRun t first n = framesRun s first n := by
  have hafter := framesRun_after (m := 0) (h.trans (Env.after_zero _).symm) first n
  rwa [Nat.zero_add] at hafter

theorem allAcked_add (s : State) (first m n : Nat) :
    allAcked s first (m + n) = (allAcked s first m && allAcked s (first + m) n) := by
  simp only [allAcked, List.range_add, List.all_append, List.all_map, Function.comp_def, Nat.add_assoc]

theorem allAcked_one (s : State) (first : Nat) : allAcked s first 1 = ackAt s (20 * first) := by simp [allAcked]

theorem allAcked_succ (s : State) (first n : Nat) :
    allAcked s first (n + 1) = (ackAt s (20 * first) && allAcked s (first + 1) n) := by
  rw [Nat.add_comm n, allAcked_add, allAcked_one]

/-- A run goes on past frames that are all acknowledged, and no further than one that is not. -/
theorem framesRun_add (s : State) (first m n : Nat) :
    framesRun s first (m + n) =
      if allAcked s first m then m + framesRun s (first + m) n else framesRun s first m := by
  induction m generalizing first with
  | zero => simp [allAcked]
  | succ m ih =>
    rw [Nat.add_right_comm, framesRun, framesRun, allAcked_succ, ih]
    cases ackAt s (20 * first) with
    | false => simp
    | true =>
      cases allAcked s (first + 1) m with
      | false => simp
      | true => simp only [if_true, Bool.and_self, Nat.add_assoc, Nat.add_comm, Nat.add_left_comm]

theorem framesRun_le (s : State) (first n : Nat) : framesRun s first n ≤ n := by
  induction n generalizing first with
  | zero => exact le_rfl
  | succ n ih =>
    have hle := ih (first + 1)
    rw [framesRun]
    split <;> omega

theorem framesRun_of_allAcked {s : State} {first n : Nat} (h : allAcked s first n = true) : framesRun s first n = n := by
  have hadd := framesRun_add s first n 0
  rwa [h, if_pos rfl] at hadd

theorem framesRun_pos (s : State) (first : Nat) {n : Nat} (h : n ≠ 0) : 0 < framesRun s first n := by
  obtain ⟨n, rfl⟩ := Nat.exists_eq_succ_of_ne_zero h
  rw [framesRun]
  split <;> omega

/-! ## One frame -/

/-- What a frame leaves on the line, in the slot engine, in `SLOT` and `ACK` (41_byte_framing.md R160, R161, R165). -/
structure FrameDone (f : BusFrame) (s t : State) : Prop where
  trace : traced s t f.shape
  env : t.env = s.env.after 20
  line : t.line = { dir := .output, lvl := true }
  slotsRest : t.slotE.qtr = 0 ∧ t.slotE.tmr = 0
  lastFrame : t.frame.slot = 9 ∧ t.frame.ack = ackAt s 0
  seq : t.seq = s.seq

theorem sendSlot_traced (s : State) (k : Fin 10) : traced s (sendSlot s k) (slotShape (topBit s)) :=
  (exchangeBit_traced (topBit s) (setSlot k s)).congr rfl rfl

theorem receiveSlot_traced (s : State) (k : Fin 10) : traced s (receiveSlot s k) (slotShape true) :=
  (exchangeBit_traced true (setSlot k s)).congr rfl rfl

/-- The data slots of a transmitted frame carry the bits of `SHR`, most significant first (20_memory.md R74). -/
theorem sendSlots_traced (s : State) (ks : List (Fin 10)) (h : ks.length ≤ 8) :
    traced s (ks.foldl sendSlot s)
      (((List.range ks.length).map fun j => s.frame.shr.getLsbD (7 - j)).flatMap slotShape) := by
  induction ks generalizing s with
  | nil => exact .of_trace_eq rfl
  | cons k ks ih =>
    rw [List.length_cons] at h
    have hbits : (List.range ks.length).map (fun j => (sendSlot s k).frame.shr.getLsbD (7 - j)) =
        (List.range ks.length).map (fun j => s.frame.shr.getLsbD (7 - (j + 1))) := by
      refine List.map_congr_left fun j hj => ?_
      have hj : j < ks.length := List.mem_range.1 hj
      rw [sendSlot_eq, show 7 - j = 7 - (j + 1) + 1 by omega, BitVec.getLsbD_eq_getElem (by omega),
        BitVec.getLsbD_eq_getElem (by omega)]
      exact shifted_getElem _ _ _ (by omega)
    have htail := ih (sendSlot s k) (by omega)
    rw [hbits] at htail
    rw [List.length_cons, List.range_succ_eq_map, List.map_cons, List.flatMap_cons, List.map_map]
    exact (sendSlot_traced s k).trans htail

theorem receiveSlots_traced (s : State) (ks : List (Fin 10)) :
    traced s (ks.foldl receiveSlot s) ((List.replicate ks.length true).flatMap slotShape) := by
  induction ks generalizing s with
  | nil => exact .of_trace_eq rfl
  | cons k ks ih =>
    rw [List.length_cons, List.replicate_succ, List.flatMap_cons]
    exact (receiveSlot_traced s k).trans (ih _)

theorem makSlot_traced (s : State) : traced s (makSlot s) (slotShape s.frame.makb) :=
  (exchangeBit_traced s.frame.makb (setSlot 8 s)).congr rfl rfl

theorem sakSlot_traced (s : State) : traced s (sakSlot s) releasedShape :=
  (readOneBit_traced (setSlot 9 s)).congr rfl rfl

theorem sendByte_traced (v : Byte) (more : Bool) (s : State) :
    traced s (sendByte v more s) (BusFrame.shape (.sent v more)) := by
  have hload : traced s (setMakb more (setShr v s)) [] := .of_trace_eq rfl
  have hdata := sendSlots_traced (setMakb more (setShr v s)) dataSlots le_rfl
  obtain ⟨-, -, -, hmak⟩ := sendSlots_env (setMakb more (setShr v s)) dataSlots
  have hslots := makSlot_traced (dataSlots.foldl sendSlot (setMakb more (setShr v s)))
  rw [hmak] at hslots
  have hframe := ((hload.trans hdata).trans hslots).trans (sakSlot_traced _)
  rw [BusFrame.shape, List.flatMap_append, List.flatMap_singleton]
  exact hframe

theorem storeReceived_trace (s : State) : (storeReceived s).trace = s.trace := by
  unfold storeReceived
  split <;> rfl

theorem receiveByte_traced (more : Bool) (s : State) :
    traced s (receiveByte more s) (BusFrame.shape (.received more)) := by
  have hload : traced s (dirOp .input (setMakb more s)) [.dir .input] := (dirOp_traced .input (setMakb more s)).congr rfl rfl
  have hdata := receiveSlots_traced (dirOp .input (setMakb more s)) dataSlots
  obtain ⟨-, -, -, hmak, -⟩ := receiveSlots_env (dirOp .input (setMakb more s)) dataSlots rfl
  have hstore := (dirOp_traced .output (dataSlots.foldl receiveSlot (dirOp .input (setMakb more s)))).congr rfl
    (storeReceived_trace _)
  have hslots := makSlot_traced (storeReceived (dirOp .output (dataSlots.foldl receiveSlot (dirOp .input (setMakb more s)))))
  rw [storeReceived_frame, dirOp_frame, hmak] at hslots
  exact (((hload.trans hdata).trans hstore).trans hslots).trans (sakSlot_traced _)

theorem sendByte_done (v : Byte) (more : Bool) (s : State) : FrameDone (.sent v more) s (sendByte v more s) := by
  obtain ⟨hline, henv, hack, -, hslot, hqtr, htmr, hrest⟩ := sendByte_spec v more s
  exact ⟨sendByte_traced v more s, henv, hline, ⟨hqtr, htmr⟩, ⟨hslot, hack⟩, hrest.seq⟩

theorem receiveByte_done (more : Bool) (s : State) : FrameDone (.received more) s (receiveByte more s) := by
  obtain ⟨hline, henv, hack, hslot, hqtr, htmr, hseq, -⟩ := receiveByte_spec more s
  exact ⟨receiveByte_traced more s, henv, hline, ⟨hqtr, htmr⟩, ⟨hslot, hack⟩, hseq⟩

/-! ## Runs -/

/-- What a run of frames leaves: those up to the first without acknowledgment are on the line, and `OK` stays unless one of
them is missing (41_byte_framing.md R162, R163, R171). -/
structure FramesDone (frames : List BusFrame) (s t : State) : Prop where
  trace : traced s t (framesShape (frames.take (framesRun s 0 frames.length)))
  env : t.env = s.env.after (20 * framesRun s 0 frames.length)
  ok : t.seq.ok = (s.seq.ok && allAcked s 0 frames.length)
  atRest : frames ≠ [] → t.line = { dir := .output, lvl := true } ∧ (t.slotE.qtr = 0 ∧ t.slotE.tmr = 0) ∧
    t.frame.slot = 9 ∧ t.frame.ack = ackAt s (20 * (framesRun s 0 frames.length - 1))
  unmoved : frames = [] → t.line = s.line ∧ t.slotE = s.slotE ∧ t.frame = s.frame

/-- An empty run does nothing (41_byte_framing.md R164). -/
theorem FramesDone.nil (s : State) : FramesDone [] s s where
  trace := .of_trace_eq rfl
  env := (Env.after_zero _).symm
  ok := (Bool.and_true _).symm
  atRest := fun h => absurd rfl h
  unmoved := fun _ => ⟨rfl, rfl, rfl⟩

/-- A run of one frame: `OK` is lowered when it is not acknowledged. -/
theorem FrameDone.run {f : BusFrame} {s t : State} (h : FrameDone f s t) :
    FramesDone [f] s (if t.frame.ack then t else raise .ackFail t) := by
  have hrun : framesRun s 0 [f].length = 1 := by simp [framesRun]
  have hall : allAcked s 0 [f].length = ackAt s 0 := allAcked_one s 0
  obtain ⟨hslot, hack⟩ := h.lastFrame
  have hshape : framesShape ([f].take 1) = f.shape := List.append_nil _
  split
  all_goals
    refine ⟨by rw [hrun, hshape]; exact h.trace, by rw [hrun]; exact h.env, ?_, fun _ => ?_, nofun⟩
    on_goal 2 => rw [hrun]; exact ⟨h.line, h.slotsRest, hslot, hack⟩
    rw [hall, ← hack]
  next hyes => rw [hyes, Bool.and_true, h.seq]
  next hno => rw [Bool.eq_false_of_not_eq_true hno, Bool.and_false]; rfl

/-- A further run after one that is acknowledged throughout. -/
theorem FramesDone.append {frames more : List BusFrame} {s t u : State} (h : FramesDone frames s t)
    (hall : allAcked s 0 frames.length = true) (g : FramesDone more t u) : FramesDone (frames ++ more) s u := by
  have hrun := framesRun_of_allAcked hall
  have henv := h.env
  rw [hrun] at henv
  have hmore : framesRun t 0 more.length = framesRun s frames.length more.length := framesRun_after henv 0 _
  have hacked : allAcked t 0 more.length = allAcked s frames.length more.length := allAcked_after henv 0 _
  have htotal : framesRun s 0 (frames ++ more).length = frames.length + framesRun s frames.length more.length := by
    rw [List.length_append, framesRun_add, hall, if_pos rfl, Nat.zero_add]
  refine ⟨?_, ?_, ?_, fun hne => ?_, fun hempty => ?_⟩
  · have htrace := h.trace.trans g.trace
    rw [hrun, hmore, List.take_length] at htrace
    rw [htotal, List.take_length_add_append]
    simpa only [framesShape, List.flatMap_append] using htrace
  · rw [g.env, henv, Env.after_after, hmore, htotal, Nat.mul_add]
  · rw [g.ok, h.ok, hacked, List.length_append, allAcked_add, Nat.zero_add, Bool.and_assoc]
  · cases more with
    | nil =>
      rw [List.append_nil] at hne ⊢
      obtain ⟨hline, hslotE, hframe⟩ := g.unmoved rfl
      rw [hline, hslotE, hframe]
      exact h.atRest hne
    | cons f fs =>
      obtain ⟨hline, hrest, hslot, hack⟩ := g.atRest (by simp)
      have hpos := framesRun_pos s frames.length (n := (f :: fs).length) (by simp)
      refine ⟨hline, hrest, hslot, ?_⟩
      rw [hack, htotal, hmore, ackAt_after henv]
      congr 1
      omega
  · obtain ⟨hframes, hmoreEmpty⟩ := List.append_eq_nil_iff.1 hempty
    obtain ⟨hline, hslotE, hframe⟩ := g.unmoved hmoreEmpty
    rw [hline, hslotE, hframe]
    exact h.unmoved hframes

/-- What a run that failed leaves is what a longer one would have. -/
theorem FramesDone.append_of_failed {frames : List BusFrame} {s t : State} (h : FramesDone frames s t)
    (hfail : allAcked s 0 frames.length = false) (more : List BusFrame) : FramesDone (frames ++ more) s t := by
  have hlen : framesRun s 0 (frames ++ more).length = framesRun s 0 frames.length := by
    rw [List.length_append, framesRun_add, hfail, if_neg Bool.false_ne_true]
  have hne : frames ≠ [] := by
    rintro rfl
    cases hfail
  refine ⟨?_, ?_, ?_, fun _ => ?_, fun hempty => absurd (List.append_eq_nil_iff.1 hempty).1 hne⟩
  · rw [hlen, List.take_append_of_le_length (framesRun_le _ _ _)]
    exact h.trace
  · rw [hlen]
    exact h.env
  · rw [h.ok, hfail, List.length_append, allAcked_add, hfail, Bool.false_and]
  · rw [hlen]
    exact h.atRest hne

/-- What a run is does not hang on the registers it leaves alone. -/
theorem FramesDone.congr {frames : List BusFrame} {s s' t : State} (h : FramesDone frames s t) (htrace : s'.trace = s.trace)
    (henv : s'.env = s.env) (hok : s'.seq.ok = s.seq.ok) (hline : s'.line = s.line) (hslotE : s'.slotE = s.slotE)
    (hframe : s'.frame = s.frame) : FramesDone frames s' t := by
  have hrun := framesRun_congr henv 0 frames.length
  have hall : allAcked s' 0 frames.length = allAcked s 0 frames.length := by
    simp only [allAcked, ackAt, driveAt, henv]
  have hack : ∀ k, ackAt s' k = ackAt s k := fun k => by simp only [ackAt, driveAt, henv]
  exact ⟨by rw [hrun]; exact h.trace.congr htrace rfl, by rw [hrun, henv]; exact h.env, by rw [hall, hok]; exact h.ok,
    by rw [hrun, hack]; exact h.atRest, by rw [hline, hslotE, hframe]; exact h.unmoved⟩

/-- A first frame, then the rest of the run if it is acknowledged. -/
theorem FrameDone.cons {f : BusFrame} {s t u : State} {rest : List BusFrame} (h : FrameDone f s t)
    (hrest : t.frame.ack = true → FramesDone rest t u) (hfail : t.frame.ack = false → u = raise .ackFail t) :
    FramesDone (f :: rest) s u := by
  have hone := h.run
  obtain ⟨-, hack⟩ := h.lastFrame
  have hall : allAcked s 0 [f].length = t.frame.ack := (allAcked_one s 0).trans hack.symm
  cases ht : t.frame.ack with
  | true =>
    rw [if_pos ht] at hone
    exact hone.append (hall.trans ht) (hrest ht)
  | false =>
    rw [ht, if_neg Bool.false_ne_true, ← hfail ht] at hone
    exact hone.append_of_failed (hall.trans ht) rest

/-- The frames of a run of sent bytes from index `n - left` on. -/
theorem sendBuffer_rest_done {data : State → Nat → Byte} {n left : Nat} {terminate : Bool} (s : State)
    (hdata : ∀ (t : State) (i : Nat), t.desc = s.desc → t.host = s.host → data t i = data s i) (hleft : left ≤ n) :
    FramesDone ((List.range' (n - left) left).map fun i => .sent (data s i) (makSend i n terminate)) s
      (sendBuffer data n terminate left s) := by
  induction left generalizing s with
  | zero => exact .nil s
  | succ left ih =>
    have hnext : n - left = n - (left + 1) + 1 := by omega
    rw [List.range'_succ, List.map_cons, ← hnext]
    simp only [sendBuffer]
    have hindex := hdata (setByteidx (n - (left + 1)) s) (n - (left + 1)) rfl rfl
    rw [hindex]
    have hframe := sendByte_done (data s (n - (left + 1))) (makSend (n - (left + 1)) n terminate)
      (setByteidx (n - (left + 1)) s)
    have hsame := sendByte_frames (data s (n - (left + 1))) (makSend (n - (left + 1)) n terminate)
      (setByteidx (n - (left + 1)) s)
    generalize sendByte (data s (n - (left + 1))) (makSend (n - (left + 1)) n terminate) (setByteidx (n - (left + 1)) s) = t
      at hframe hsame ⊢
    have hsource : ∀ i, data t i = data s i := fun i => hdata t i hsame.desc hsame.host
    refine FramesDone.congr (hframe.cons (fun hack => ?_) fun hack => ?_) rfl rfl rfl rfl rfl rfl
    · have hrest := ih t (fun u i hd hh => (hdata u i (hd.trans hsame.desc) (hh.trans hsame.host)).trans (hsource i).symm)
        (by omega)
      simp only [hsource] at hrest
      rw [if_pos hack]
      exact hrest
    · rw [hack, if_neg Bool.false_ne_true]

/-- The frames of a run of receptions from index `n - left` on. -/
theorem receiveBuffer_rest_done {n left : Nat} (s : State) (hleft : left ≤ n) :
    FramesDone ((List.range' (n - left) left).map fun i => .received (makReceive i n)) s (receiveBuffer n left s) := by
  induction left generalizing s with
  | zero => exact .nil s
  | succ left ih =>
    have hnext : n - left = n - (left + 1) + 1 := by omega
    rw [List.range'_succ, List.map_cons, ← hnext]
    simp only [receiveBuffer]
    have hframe := receiveByte_done (makReceive (n - (left + 1)) n) (setByteidx (n - (left + 1)) s)
    generalize receiveByte (makReceive (n - (left + 1)) n) (setByteidx (n - (left + 1)) s) = t at hframe ⊢
    refine FramesDone.congr (hframe.cons (fun hack => ?_) fun hack => ?_) rfl rfl rfl rfl rfl rfl
    · rw [if_pos hack]
      exact ih t (by omega)
    · rw [hack, if_neg Bool.false_ne_true]

/-- `send_buffer` sends the bytes of its source (R162). -/
theorem sendBuffer_done {data : State → Nat → Byte} (n : Nat) (terminate : Bool) (s : State)
    (hdata : ∀ (t : State) (i : Nat), t.desc = s.desc → t.host = s.host → data t i = data s i) :
    FramesDone (sentRun terminate ((List.range n).map (data s))) s (sendBuffer data n terminate n s) := by
  have hrun := sendBuffer_rest_done (terminate := terminate) s hdata (le_refl n)
  rw [Nat.sub_self, ← List.range_eq_range'] at hrun
  have hframes : sentRun terminate ((List.range n).map (data s)) =
      (List.range n).map fun i => .sent (data s i) (makSend i n terminate) := by
    apply List.ext_getElem <;> simp [sentRun]
  rw [hframes]
  exact hrun

/-- `receive_buffer` receives `n` frames (R163). -/
theorem receiveBuffer_done (n : Nat) (s : State) : FramesDone (receivedRun n) s (receiveBuffer n n s) := by
  have hrun := receiveBuffer_rest_done s (le_refl n)
  rwa [Nat.sub_self, ← List.range_eq_range'] at hrun

end Sys2Proof.Machine

/-! PROOF. The wire commands as instructions (30_encoding.md R107 to R110, R119; 43_device_operations.md R192, R201): the frames
of a command and its payload, what a reception stores, and what each command leaves. -/

namespace Sys2Proof.Machine

/-! ## What a frame stores (41_byte_framing.md R169) -/

/-- One bit shifted in, the oldest out (10_state.md R27). -/
def shiftBit (x : Byte) (b : Bool) : Byte := x.extractLsb' 0 7 ++ BitVec.ofBool b

theorem shiftBit_zero (x : Byte) (b : Bool) : (shiftBit x b).getLsbD 0 = b := by
  rw [shiftBit, BitVec.getLsbD_append]
  simp

theorem shiftBit_succ (x : Byte) (b : Bool) {k : Nat} (hk : k + 1 < 8) :
    (shiftBit x b).getLsbD (k + 1) = x.getLsbD k := by
  rw [BitVec.getLsbD_eq_getElem (by omega), BitVec.getLsbD_eq_getElem (by omega)]
  exact shifted_getElem x _ k hk

/-- After `js.length` shifts the low bits do not tell what was there before. -/
theorem foldl_shiftBit_low (f : Nat → Bool) (js : List Nat) (n : Nat) {x y : Byte}
    (h : ∀ k, k < n → k < 8 → x.getLsbD k = y.getLsbD k) :
    ∀ k, k < n + js.length → k < 8 →
      (js.foldl (fun b j => shiftBit b (f j)) x).getLsbD k = (js.foldl (fun b j => shiftBit b (f j)) y).getLsbD k := by
  induction js generalizing n x y with
  | nil => exact h
  | cons j js ih =>
    intro k hk
    refine ih (n + 1) (fun k hk hk8 => ?_) k (by rw [List.length_cons] at hk; omega)
    cases k with
    | zero => rw [shiftBit_zero, shiftBit_zero]
    | succ k => rw [shiftBit_succ _ _ hk8, shiftBit_succ _ _ hk8, h k (by omega) (by omega)]

/-- Eight decoded slots are the whole byte, whatever `SHR` held (R161). -/
theorem foldl_shiftIn_eq_byteAt (s : State) (x : Byte) :
    (List.range dataSlots.length).foldl (fun b j => b.extractLsb' 0 7 ++ BitVec.ofBool (dataBitAt s 0 j)) x = byteAt s 0 :=
  BitVec.eq_of_getLsbD_eq fun k hk =>
    foldl_shiftBit_low (dataBitAt s 0) (List.range 8) 0 (y := 0#8) (fun _ h => absurd h (Nat.not_lt_zero _)) k
      (hk.trans_eq (by simp)) hk

/-- A reception stores its decoded byte, acknowledged or not. -/
theorem receiveByte_stores (more : Bool) (s : State) :
    (receiveByte more s).res = (storeReceived (setShr (byteAt s 0) s)).res ∧
    (receiveByte more s).host = (storeReceived (setShr (byteAt s 0) s)).host := by
  obtain ⟨-, -, hsame, -, hshr⟩ := receiveSlots_env (dirOp .input (setMakb more s)) dataSlots rfl
  have hbyte := foldl_shiftIn_eq_byteAt (dirOp .input (setMakb more s)) s.frame.shr
  have hat : byteAt (dirOp .input (setMakb more s)) 0 = byteAt s 0 := rfl
  simp only [dirOp_frame, setMakb_frame] at hshr
  have hshr := (hshr.trans hbyte).trans hat
  have hdesc := hsame.desc
  have hres := hsame.res
  have hseq := hsame.seq
  have hhost := hsame.host
  simp only [receiveByte, sakSlot_eq, makSlot_eq]
  generalize dataSlots.foldl receiveSlot (dirOp .input (setMakb more s)) = u at *
  simp only [dirOp_desc, setMakb_desc, dirOp_res, setMakb_res, dirOp_seq, setMakb_seq, dirOp_host, setMakb_host]
    at hdesc hres hseq hhost
  unfold storeReceived
  simp only [dirOp_desc, setShr_desc, hdesc]
  split <;> simp [payloadIndex, hdesc, hres, hseq, hhost, hshr]

/-! ## What a run stores -/

theorem sendBuffer_res (data : State → Nat → Byte) (n : Nat) (terminate : Bool) (left : Nat) (s : State) :
    (sendBuffer data n terminate left s).res = s.res := by
  induction left generalizing s with
  | zero => rfl
  | succ left ih =>
    simp only [sendBuffer]
    split
    · rw [ih, (sendByte_frames _ _ _).res, setByteidx_res]
    · rw [raise_res, (sendByte_frames _ _ _).res, setByteidx_res]

/-- Reception `i` of a run into the buffer writes one byte, at `PBASE + i` (R169). -/
theorem receiveByte_buffer (more : Bool) {s : State} {i : Nat} (hi : i < 65536) (hdir : s.desc.pdir = .rxBuf) :
    (receiveByte more (setByteidx i s)).res = s.res ∧
    (receiveByte more (setByteidx i s)).host.buf = memWrite s.host.buf (s.desc.pbase.toNat + i) (byteAt s 0) := by
  obtain ⟨hres, hhost⟩ := receiveByte_stores more (setByteidx i s)
  have hbyte : byteAt (setByteidx i s) 0 = byteAt s 0 := rfl
  rw [hres, hhost]
  simp [storeReceived, hdir, payloadIndex, hbyte, Nat.mod_eq_of_lt hi]

/-- A reception into `STATUS_R` (43_device_operations.md R209). -/
theorem receiveByte_status (more : Bool) {s : State} {i : Nat} (hdir : s.desc.pdir = .rxStatus) :
    (receiveByte more (setByteidx i s)).res = { s.res with statusR := byteAt s 0 } ∧
    (receiveByte more (setByteidx i s)).host = s.host := by
  obtain ⟨hres, hhost⟩ := receiveByte_stores more (setByteidx i s)
  have hbyte : byteAt (setByteidx i s) 0 = byteAt s 0 := rfl
  rw [hres, hhost]
  simp [storeReceived, hdir, hbyte]

theorem memRead_memWrite {m : Memory} (hwf : m.wf = true) (i : Nat) (v : Byte) (a : Nat) :
    memRead (memWrite m i v) a = if a = i then v else memRead m a := by
  split
  next h => rw [h]; exact memRead_memWrite_same m i v 0 hwf
  next h => exact memRead_memWrite_other m i a v (Ne.symm h)

/-! Where frame `k` of a run from index `i` on gives the byte `bytes (20 * k)`: one frame, and one before `r` others. -/

theorem run_of_one (bytes : Nat → Byte) (old : Byte) (i a : Nat) :
    (if a = i then bytes 0 else old) = if i ≤ a ∧ a < i + 1 then bytes (20 * (a - i)) else old := by
  by_cases h : a = i
  · rw [if_pos h, if_pos (by omega), h, Nat.sub_self]
  · rw [if_neg h, if_neg (by omega)]

theorem run_from_next (bytes : Nat → Byte) (old : Byte) (i r a : Nat) :
    (if i + 1 ≤ a ∧ a < i + 1 + r then bytes (20 * 1 + 20 * (a - (i + 1))) else if a = i then bytes 0 else old) =
      if i ≤ a ∧ a < i + (1 + r) then bytes (20 * (a - i)) else old := by
  by_cases hlater : i + 1 ≤ a ∧ a < i + 1 + r
  · rw [if_pos hlater, if_pos (by omega)]
    congr 1
    omega
  · by_cases h : a = i
    · rw [if_neg hlater, if_pos h, if_pos (by omega), h, Nat.sub_self]
    · rw [if_neg hlater, if_neg h, if_neg (by omega)]

/-- The bytes of a run of receptions into the buffer, from reception `n - left` on. -/
theorem receiveBuffer_buffer {n left : Nat} {s : State} (hn : n ≤ 65536) (hleft : left ≤ n) (hdir : s.desc.pdir = .rxBuf) :
    (receiveBuffer n left s).res = s.res ∧
    (s.host.buf.wf = true → ∀ a, memRead (receiveBuffer n left s).host.buf a =
      if s.desc.pbase.toNat + (n - left) ≤ a ∧ a < s.desc.pbase.toNat + (n - left) + framesRun s 0 left then
        byteAt s (20 * (a - (s.desc.pbase.toNat + (n - left))))
      else memRead s.host.buf a) := by
  induction left generalizing s with
  | zero =>
    refine ⟨rfl, fun _ a => (if_neg ?_).symm⟩
    rw [framesRun]
    omega
  | succ left ih =>
    obtain ⟨hres, hbuf⟩ := receiveByte_buffer (makReceive (n - (left + 1)) n) (s := s) (i := n - (left + 1)) (by omega) hdir
    have hdone := receiveByte_done (makReceive (n - (left + 1)) n) (setByteidx (n - (left + 1)) s)
    have hrun := receiveByte_run (makReceive (n - (left + 1)) n) (setByteidx (n - (left + 1)) s)
    simp only [receiveBuffer]
    generalize receiveByte (makReceive (n - (left + 1)) n) (setByteidx (n - (left + 1)) s) = u at hres hbuf hdone hrun ⊢
    have hdesc : u.desc = s.desc := hrun.desc
    have henv : u.env = s.env.after (20 * 1) := hdone.env
    have hack : u.frame.ack = ackAt s (20 * 0) := hdone.lastFrame.2
    generalize hat : s.desc.pbase.toNat + (n - (left + 1)) = i at hbuf ⊢
    have hnext : s.desc.pbase.toNat + (n - left) = i + 1 := by omega
    cases hacked : u.frame.ack with
    | true =>
      obtain ⟨hrest, hbytes⟩ := ih (s := u) (by omega) (by rw [hdesc]; exact hdir)
      refine ⟨hrest.trans hres, fun hwf a => ?_⟩
      rw [if_pos rfl, hbytes (by rw [hbuf]; exact memWrite_wf _ _ _ hwf) a, hdesc, hnext, framesRun_after henv, framesRun,
        ← hack, hacked, if_pos rfl, byteAt_after henv, hbuf, memRead_memWrite hwf]
      exact run_from_next (byteAt s) _ _ _ a
    | false =>
      refine ⟨hres, fun hwf a => ?_⟩
      rw [if_neg Bool.false_ne_true, framesRun, ← hack, hacked, if_neg Bool.false_ne_true, raise_host, hbuf,
        memRead_memWrite hwf]
      exact run_of_one (byteAt s) _ _ a

/-- The status byte of a run of receptions is the last one's. -/
theorem receiveBuffer_status {n left : Nat} {s : State} (hdir : s.desc.pdir = .rxStatus) :
    (receiveBuffer n left s).host = s.host ∧
    (left ≠ 0 → (receiveBuffer n left s).res.statusR = byteAt s (20 * (framesRun s 0 left - 1))) := by
  induction left generalizing s with
  | zero => exact ⟨rfl, fun h => absurd rfl h⟩
  | succ left ih =>
    obtain ⟨hres, hhost⟩ := receiveByte_status (makReceive (n - (left + 1)) n) (i := n - (left + 1)) hdir
    have hdone := receiveByte_done (makReceive (n - (left + 1)) n) (setByteidx (n - (left + 1)) s)
    have hrun := receiveByte_run (makReceive (n - (left + 1)) n) (setByteidx (n - (left + 1)) s)
    simp only [receiveBuffer]
    generalize receiveByte (makReceive (n - (left + 1)) n) (setByteidx (n - (left + 1)) s) = u at hres hhost hdone hrun ⊢
    have henv : u.env = s.env.after (20 * 1) := hdone.env
    have hack : u.frame.ack = ackAt s (20 * 0) := hdone.lastFrame.2
    rw [framesRun, ← hack]
    cases u.frame.ack with
    | true =>
      obtain ⟨hrest, hlast⟩ := ih (s := u) (by rw [hrun.desc]; exact hdir)
      refine ⟨hrest.trans hhost, fun _ => ?_⟩
      simp only [if_true]
      by_cases hleft : left = 0
      · subst hleft
        simp only [receiveBuffer, hres, framesRun]
      · have hpos := framesRun_pos s 1 hleft
        rw [hlast hleft, framesRun_after henv, byteAt_after henv]
        congr 1
        simp only [Nat.add_zero, Nat.zero_add]
        omega
    | false =>
      refine ⟨hhost, fun _ => ?_⟩
      simp only [Bool.false_eq_true, if_false, raise_res, hres, Nat.sub_self, Nat.mul_zero]

/-! ## The frames of a command -/

/-- The frames that send the command buffer. -/
def commandFrames (d : DescRegs) : List BusFrame := sentRun d.cmdterm ((List.range d.cmdlen.toNat).map (cmdByte d.cmd))

/-- The frames of the payload, its bytes in the buffer `m` where they are sent. -/
def payloadFrames (d : DescRegs) (m : Memory) : List BusFrame :=
  match d.pdir with
  | .none => []
  | .tx => sentRun true (bufferBytes m d.pbase.toNat d.plen.toNat)
  | .rxBuf | .rxStatus => receivedRun d.plen.toNat

theorem length_commandFrames (d : DescRegs) : (commandFrames d).length = d.cmdlen.toNat := by
  simp [commandFrames, sentRun]

theorem payload_done (s : State) : FramesDone (payloadFrames s.desc s.host.buf) s (payload s) := by
  unfold payloadFrames payload
  cases s.desc.pdir with
  | none => exact .nil s
  | tx =>
    exact sendBuffer_done (data := fun t i => memRead t.host.buf (t.desc.pbase.toNat + i)) s.desc.plen.toNat true s
      fun t i hdesc hhost => by rw [hdesc, hhost]
  | rxBuf => exact receiveBuffer_done _ s
  | rxStatus => exact receiveBuffer_done _ s

/-- The command frames, and the payload if they are all acknowledged (43_device_operations.md R192). -/
theorem exchange_eq {s : State} (hok : s.seq.ok = true) :
    ∃ u, FramesDone (commandFrames s.desc) s u ∧ u.desc = s.desc ∧ u.res = s.res ∧ u.host = s.host ∧
      exchange s = if allAcked s 0 s.desc.cmdlen.toNat then payload u else u := by
  have hdone := sendBuffer_done (data := fun u i => cmdByte u.desc.cmd i) s.desc.cmdlen.toNat s.desc.cmdterm s
    fun t i hdesc _ => by rw [hdesc]
  have hrun := sendBuffer_run (fun u i => cmdByte u.desc.cmd i) s.desc.cmdlen.toNat s.desc.cmdterm s.desc.cmdlen.toNat s
  have hres := sendBuffer_res (fun u i => cmdByte u.desc.cmd i) s.desc.cmdlen.toNat s.desc.cmdterm s.desc.cmdlen.toNat s
  have hhost := sendBuffer_host (fun u i => cmdByte u.desc.cmd i) s.desc.cmdlen.toNat s.desc.cmdterm s.desc.cmdlen.toNat s
  simp only [exchange]
  generalize sendBuffer (fun u i => cmdByte u.desc.cmd i) s.desc.cmdlen.toNat s.desc.cmdterm s.desc.cmdlen.toNat s = t
    at hdone hrun hres hhost ⊢
  have htok : t.seq.ok = allAcked s 0 s.desc.cmdlen.toNat := by
    have h := hdone.ok
    rw [hok, Bool.true_and] at h
    exact h.trans (congrArg (allAcked s 0) (length_commandFrames s.desc))
  rw [htok]
  cases allAcked s 0 s.desc.cmdlen.toNat with
  | true =>
    exact ⟨setByteidx 0 t, ⟨hdone.trace, hdone.env, hdone.ok, hdone.atRest, hdone.unmoved⟩, hrun.desc, hres, hhost, rfl⟩
  | false => exact ⟨t, hdone, hrun.desc, hres, hhost, rfl⟩

theorem exchange_done {s : State} (hok : s.seq.ok = true) :
    FramesDone (commandFrames s.desc ++ payloadFrames s.desc s.host.buf) s (exchange s) := by
  obtain ⟨u, hdone, hdesc, -, hhost, hexchange⟩ := exchange_eq hok
  rw [hexchange, ← length_commandFrames]
  cases hall : allAcked s 0 (commandFrames s.desc).length with
  | true =>
    have hpayload := payload_done u
    rw [hdesc, hhost] at hpayload
    exact hdone.append hall hpayload
  | false => exact hdone.append_of_failed hall _

/-- A command without a payload, or with a sent one, leaves the results and the host's side alone. -/
theorem exchange_keeps {s : State} (hok : s.seq.ok = true) (hdir : s.desc.pdir = .none ∨ s.desc.pdir = .tx) :
    (exchange s).res = s.res ∧ (exchange s).host = s.host := by
  obtain ⟨u, -, hdesc, hres, hhost, hexchange⟩ := exchange_eq hok
  rw [hexchange]
  split
  · unfold payload
    rw [hdesc]
    obtain h | h := hdir
    · rw [h]
      exact ⟨hres, hhost⟩
    · rw [h]
      exact ⟨(sendBuffer_res ..).trans hres, (sendBuffer_host ..).trans hhost⟩
  · exact ⟨hres, hhost⟩

/-- What a command with a payload received into the buffer stores. -/
theorem exchange_buffer {s : State} (hok : s.seq.ok = true) (hdir : s.desc.pdir = .rxBuf) :
    (exchange s).res = s.res ∧
    (s.host.buf.wf = true → ∀ a, memRead (exchange s).host.buf a =
      if s.desc.pbase.toNat ≤ a ∧
        s.desc.cmdlen.toNat + (a - s.desc.pbase.toNat) < framesRun s 0 (s.desc.cmdlen.toNat + s.desc.plen.toNat) then
        byteAt s (20 * (s.desc.cmdlen.toNat + (a - s.desc.pbase.toNat)))
      else memRead s.host.buf a) := by
  obtain ⟨u, hdone, hdesc, hres, hhost, hexchange⟩ := exchange_eq hok
  have henv := hdone.env
  rw [hexchange, framesRun_add]
  rw [length_commandFrames] at henv
  cases hall : allAcked s 0 s.desc.cmdlen.toNat with
  | true =>
    rw [framesRun_of_allAcked hall] at henv
    have hpayload : payload u = receiveBuffer s.desc.plen.toNat s.desc.plen.toNat u := by
      unfold payload
      rw [hdesc, hdir]
    obtain ⟨hkept, hbytes⟩ := receiveBuffer_buffer (s := u) s.desc.plen.isLt.le le_rfl (by rw [hdesc]; exact hdir)
    rw [if_pos rfl, if_pos rfl, hpayload]
    refine ⟨hkept.trans hres, fun hwf a => ?_⟩
    rw [hbytes (by rw [hhost]; exact hwf), hdesc, hhost, Nat.sub_self, framesRun_after henv, byteAt_after henv, Nat.mul_add]
    simp only [Nat.add_zero, Nat.zero_add]
    congr 1
    simp only [eq_iff_iff]
    omega
  | false =>
    rw [if_neg Bool.false_ne_true, if_neg Bool.false_ne_true]
    refine ⟨hres, fun _ a => ?_⟩
    have hle := framesRun_le s 0 s.desc.cmdlen.toNat
    rw [if_neg (by omega), hhost]

/-- What a command with one status byte to receive stores. -/
theorem exchange_status {s : State} (hok : s.seq.ok = true) (hdir : s.desc.pdir = .rxStatus) (hlen : s.desc.plen = 1) :
    (exchange s).host = s.host ∧
    (exchange s).res.statusR =
      if allAcked s 0 s.desc.cmdlen.toNat then byteAt s (20 * s.desc.cmdlen.toNat) else s.res.statusR := by
  obtain ⟨u, hdone, hdesc, hres, hhost, hexchange⟩ := exchange_eq hok
  have henv := hdone.env
  rw [length_commandFrames] at henv
  rw [hexchange]
  cases hall : allAcked s 0 s.desc.cmdlen.toNat with
  | true =>
    rw [framesRun_of_allAcked hall] at henv
    have hpayload : payload u = receiveBuffer 1 1 u := by
      unfold payload
      rw [hdesc, hdir, hlen]
      rfl
    obtain ⟨hkept, hbyte⟩ := receiveBuffer_status (n := 1) (left := 1) (s := u) (by rw [hdesc]; exact hdir)
    have hone : framesRun u 0 1 = 1 := by simp [framesRun]
    rw [if_pos rfl, if_pos rfl, hpayload, hbyte (by decide), hone, byteAt_after henv,
      Nat.sub_self, Nat.mul_zero, Nat.add_zero]
    exact ⟨hkept.trans hhost, rfl⟩
  | false =>
    rw [if_neg Bool.false_ne_true, if_neg Bool.false_ne_true, hres]
    exact ⟨hhost, rfl⟩

/-! ## The commands -/

/-- A wire command leaves its frames on the line and, but for the payload's destination, what it is not about. -/
theorem sendCommand_done {d : DescRegs} {frames : List BusFrame} (s : State)
    (hframes : commandFrames d ++ payloadFrames d s.host.buf = frames) (hne : frames ≠ []) :
    WireDone frames s (sendCommand d s) := by
  have hdone : FramesDone (commandFrames d ++ payloadFrames d s.host.buf) (setOk true (setDesc d s)) (sendCommand d s) :=
    exchange_done (s := setOk true (setDesc d s)) rfl
  have hrun : SameBesidesRun (setOk true (setDesc d s)) (sendCommand d s) := exchange_run _
  have hcount := framesRun_congr (s := s) (t := setOk true (setDesc d s)) rfl 0 frames.length
  rw [hframes] at hdone
  obtain ⟨hline, hrest, hlast⟩ := hdone.atRest hne
  exact
    { ok := hdone.ok.trans (Bool.true_and _)
      trace := by rw [← hcount]; exact hdone.trace
      env := by rw [← hcount]; exact hdone.env
      line := hline
      slotsRest := hrest
      lastFrame := by rw [← hcount]; exact hlast
      opnd := hrun.opnd
      result := ⟨hrun.success, hrun.busy, hrun.done⟩
      control := ⟨hrun.phase, hrun.curop⟩
      orch := hrun.orch
      savedIe := hrun.savedIe
      inited := hrun.inited
      host := ⟨hrun.ie, hrun.bufSize⟩ }

theorem sendCommand_desc (d : DescRegs) (s : State) : (sendCommand d s).desc = d := by
  have hrun : SameBesidesRun (setOk true (setDesc d s)) (sendCommand d s) := exchange_run _
  exact hrun.desc

/-- A command without received bytes (R197, R198, R200). -/
theorem sendCommand_keeps {d : DescRegs} (s : State) (hdir : d.pdir = .none ∨ d.pdir = .tx) :
    (sendCommand d s).res = s.res ∧ (sendCommand d s).host = s.host :=
  exchange_keeps (s := setOk true (setDesc d s)) rfl hdir

theorem sendBufferedCommand_fits {d : DescRegs} {s : State} (h : d.pbase.toNat + d.plen.toNat ≤ s.host.bufSize) :
    sendBufferedCommand d s = .next (sendCommand d s) :=
  if_pos (decide_eq_true h)

/-- Settles O25: two sent frames, the second with NoMAK, and no payload. -/
theorem wireWriteEnable : Obligations.WireWriteEnable := by
  intro dev s
  obtain ⟨hres, hhost⟩ := sendCommand_keeps (d := descWren s dev) s (.inl rfl)
  obtain ⟨hres', hhost'⟩ := sendCommand_keeps (d := descWrdi s dev) s (.inl rfl)
  exact ⟨⟨_, rfl, sendCommand_done s rfl (List.cons_ne_nil _ _), sendCommand_desc _ s, hres, hhost⟩,
    ⟨_, rfl, sendCommand_done s rfl (List.cons_ne_nil _ _), sendCommand_desc _ s, hres', hhost'⟩⟩

/-- Settles O26: RDSR receives one frame into `STATUS_R` once its two command frames are acknowledged; WRSR has no payload. -/
theorem wireStatus : Obligations.WireStatus := by
  intro dev status s
  obtain ⟨hhost, hstatus⟩ := exchange_status (s := setOk true (setDesc (descRdsr s dev) s)) rfl rfl rfl
  obtain ⟨hres', hhost'⟩ := sendCommand_keeps (d := descWrsr s dev status) s (.inl rfl)
  exact ⟨⟨_, rfl, sendCommand_done s rfl (List.cons_ne_nil _ _), sendCommand_desc _ s, hstatus, hhost⟩,
    ⟨_, rfl, sendCommand_done s rfl (List.cons_ne_nil _ _), sendCommand_desc _ s, hres', hhost'⟩⟩

/-- Settles O27: four sent frames with MAK, then receptions from index 0 on. -/
theorem wireRead : Obligations.WireRead := by
  intro dev hi lo s hfits
  have hspan : (descRead s dev hi lo).pbase.toNat + (descRead s dev hi lo).plen.toNat ≤ s.host.bufSize :=
    (Nat.zero_add _).trans_le hfits
  obtain ⟨hres, hbuf⟩ := exchange_buffer (s := setOk true (setDesc (descRead s dev hi lo) s)) rfl rfl
  refine ⟨_, sendBufferedCommand_fits hspan, sendCommand_done s rfl (List.cons_ne_nil _ _), sendCommand_desc _ s, hres,
    fun hwf a => ?_⟩
  have hread := hbuf hwf a
  have hbase : (descRead s dev hi lo).pbase.toNat = 0 := rfl
  have hlen : (descRead s dev hi lo).cmdlen.toNat = 4 := rfl
  simp only [setOk_desc, setDesc_desc, hbase, hlen, Nat.zero_le, true_and, Nat.sub_zero,
    framesRun_congr (s := s) (t := setOk true (setDesc (descRead s dev hi lo) s)) rfl] at hread
  exact hread

/-- Settles O28: four sent frames with MAK, then the buffer's bytes from `CUR_PTR` on. -/
theorem wireWrite : Obligations.WireWrite := by
  rintro dev hi lo n s rfl hfits
  obtain ⟨hres, hhost⟩ := sendCommand_keeps (d := descWrite s dev hi lo) s (.inr rfl)
  exact ⟨_, sendBufferedCommand_fits hfits, sendCommand_done s rfl (List.cons_ne_nil _ _), sendCommand_desc _ s, hres,
    hhost⟩

end Sys2Proof.Machine

/-! PROOF. Host requests (30_encoding.md R114, R115; 43_device_operations.md R204, R205, R211, R212, R214; 60_exceptions.md R273,
R278): refused at once, ignored while busy, or answered with a next state. -/

namespace Sys2Proof.Machine

/-! ## Refused and ignored requests -/

theorem hostRequest_busy {s : State} (h : s.res.busy = true) (i : Instr)
    (operation : State → Host.Outcome State Fault Refusal) : hostRequest i operation s = .next s :=
  if_pos h

theorem reservedRequest_busy {s : State} (h : s.res.busy = true) (i : Instr) : reservedRequest i s = .next s := if_pos h

theorem execInit_busy {s : State} (h : s.res.busy = true) : execInit s = .next s := if_pos h

theorem exec_busy {i : Instr} (hi : i.isRequest = true) {s : State} (h : s.res.busy = true) : exec i s = .next s := by
  cases i with
  | init => exact execInit_busy h
  | read | startWrite | enableWrite | disableWrite | readStatus | writeStatus | awaitWriteComplete | simpleWrite =>
    exact hostRequest_busy h _ _
  | reserved9 | reserved10 | reserved11 | reserved12 | reserved13 | reserved14 | reserved15 =>
    exact reservedRequest_busy h _
  | _ => cases hi

/-- The failed completion of a request that has not begun (60_exceptions.md R263). -/
def refusedAtOnce (i : Instr) (s : State) : State :=
  { s with
    opnd := present i s.opnd
    res := { success := false, statusR := s.res.statusR, busy := false, done := true }
    seq := { s.seq with phase := .idle, ok := false } }

theorem hostRequest_uninitialised {s : State} (hbusy : s.res.busy = false) (hinit : s.inited = false) (i : Instr)
    (operation : State → Host.Outcome State Fault Refusal) : hostRequest i operation s = .next (refusedAtOnce i s) := by
  rw [hostRequest, hbusy, hinit]
  rfl

theorem reservedRequest_idle {s : State} (hbusy : s.res.busy = false) (i : Instr) :
    reservedRequest i s = .next (refusedAtOnce i s) := by
  rw [reservedRequest, hbusy]
  rfl

/-- Settles O39: a reserved code, or `INITED = 0`, is a failed completion at once; while busy a request is ignored. -/
theorem refusedRequests : Obligations.RefusedRequests := by
  intro i s hi
  refine ⟨fun hbusy hwhy => ?_, exec_busy hi⟩
  show exec i s = .next (refusedAtOnce i s)
  cases i with
  | init =>
    obtain hcode | ⟨hne, -⟩ := hwhy
    · cases hcode
    · exact absurd rfl hne
  | read | startWrite | enableWrite | disableWrite | readStatus | writeStatus | awaitWriteComplete | simpleWrite =>
    obtain hcode | ⟨-, hinit⟩ := hwhy
    · cases hcode
    · exact hostRequest_uninitialised hbusy hinit _ _
  | reserved9 | reserved10 | reserved11 | reserved12 | reserved13 | reserved14 | reserved15 =>
    exact reservedRequest_idle hbusy _
  | _ => cases hi

/-! ## `IE` and the operation under way (R214, R281) -/

theorem transaction_ie (s : State) : (transaction s).host.ie = s.host.ie := by
  obtain ⟨hie, -⟩ := transaction_run s
  exact hie

theorem transaction_curop (s : State) : (transaction s).seq.curop = s.seq.curop := by
  obtain ⟨-, -, -, -, -, -, -, -, hcurop, -⟩ := transaction_run s
  exact hcurop

theorem pollLoop_ie_curop (fuel : Nat) (s : State) :
    (pollLoop fuel s).host.ie = s.host.ie ∧ (pollLoop fuel s).seq.curop = s.seq.curop := by
  induction fuel generalizing s with
  | zero => exact ⟨rfl, rfl⟩
  | succ fuel ih =>
    simp only [pollLoop]
    split
    · obtain ⟨hie, hcurop⟩ := ih (transaction s)
      exact ⟨hie.trans (transaction_ie s), hcurop.trans (transaction_curop s)⟩
    · exact ⟨transaction_ie s, transaction_curop s⟩

theorem runPolls_ie (s : State) : (runPolls s).host.ie = s.host.ie := by
  obtain ⟨hie, -⟩ := pollLoop_ie_curop (pollFuel (awaitOpen s)) (awaitOpen s)
  exact hie

theorem runPolls_curop (s : State) : (runPolls s).seq.curop = .op .await := by
  obtain ⟨-, hcurop⟩ := pollLoop_ie_curop (pollFuel (awaitOpen s)) (awaitOpen s)
  exact hcurop

theorem runChunk_ie (s : State) : (runChunk s).host.ie = s.host.ie := by
  simp only [runChunk]
  split
  · split
    · split
      · rw [runPolls_ie, transaction_ie, enter_host, transaction_ie, enter_host, takeChunk_host]
      · rw [transaction_ie, enter_host, transaction_ie, enter_host, takeChunk_host]
    · rw [raise_host, enter_host, transaction_ie, enter_host, takeChunk_host]
  · rw [transaction_ie, enter_host, takeChunk_host]

/-- A chunk that has not failed has come to its completion polls (44_paged_write.md R220). -/
theorem runChunk_curop {s : State} (hok : (runChunk s).seq.ok = true) : (runChunk s).seq.curop = .op .await := by
  revert hok
  simp only [runChunk]
  split
  next =>
    split
    next =>
      split
      next => exact fun _ => runPolls_curop _
      next hfail => exact fun hok => absurd hok hfail
    next => exact nofun
  next hfail => exact fun hok => absurd hok hfail

/-! ## Every request answers -/

/-- Completed, with the outcome in `SUCCESS` (60_exceptions.md R273). -/
def State.completed (t : State) : Prop :=
  t.res.done = true ∧ t.res.busy = false ∧ t.seq.phase = .idle ∧ t.res.success = t.seq.ok

/-- Between two polls of a device that still writes (60_exceptions.md R278). -/
def State.awaiting (t : State) : Prop :=
  t.res.done = false ∧ t.res.busy = true ∧ t.seq.phase = .gap ∧ t.seq.curop = .op .await ∧ t.seq.ok = true ∧
  t.res.statusR.getLsbD 0 = true

/-- An operation started in `s` answers a next state, with the operands, `IE` and the buffer's size as before. -/
def answersFrom (s : State) (ending : State → Prop) (o : Host.Outcome State Fault Refusal) : Prop :=
  ∃ t, o = .next t ∧ t.opnd = s.opnd ∧ t.host.ie = s.host.ie ∧ t.host.bufSize = s.host.bufSize ∧ ending t

theorem answersFrom.imp {s : State} {ending ending' : State → Prop} {o : Host.Outcome State Fault Refusal}
    (h : answersFrom s ending o) (hweaker : ∀ t, ending t → ending' t) : answersFrom s ending' o := by
  obtain ⟨t, ho, hopnd, hie, hsize, hending⟩ := h
  exact ⟨t, ho, hopnd, hie, hsize, hweaker t hending⟩

theorem complete_completed (s : State) : (complete s).completed := ⟨rfl, rfl, rfl, rfl⟩

theorem suspend_awaiting {s : State} (h : s.operating) (hcurop : s.seq.curop = .op .await) (hok : s.seq.ok = true)
    (hwip : wip s = true) : (suspend s).awaiting :=
  ⟨h.done, h.busy, rfl, hcurop, hok, hwip⟩

/-- An operation that the engine runs on its own and then completes. -/
theorem RunsOn.completes {s t : State} (h : RunsOn s t) (hie : t.host.ie = s.host.ie) :
    answersFrom s State.completed (.next (complete t)) :=
  ⟨_, rfl, h.opnd, hie, h.bufSize, complete_completed t⟩

theorem runRead_answers {s : State} (h : s.opnd.length.toNat ≤ s.host.bufSize) :
    answersFrom s State.completed (runRead s) := by
  have hfits : payloadFits (enter .read (loadAddress s)) = true := decide_eq_true ((Nat.zero_add _).trans_le h)
  have hrun : RunsOn s (transaction (enter .read (loadAddress s))) :=
    (RunsOn.refl s).then_loadAddress.then_enter.then_transaction
  simp only [runRead, hfits, if_true]
  exact hrun.completes (transaction_ie _)

theorem runStartWrite_answers {s : State} (hop : s.opnd.opsel ≠ 8#4) (h : s.opnd.length.toNat ≤ s.host.bufSize) :
    answersFrom s State.completed (runStartWrite s) := by
  have hload : RunsOn s (enter .startWrite (loadWriteOperands s)) := (RunsOn.refl s).then_loadWriteOperands.then_enter
  have hlen : (enter .startWrite (loadWriteOperands s)).desc.plen = s.opnd.length := writeCount_of_opsel_ne hop
  have hfits : payloadFits (enter .startWrite (loadWriteOperands s)) = true := by
    rw [payloadFits, hlen]
    exact decide_eq_true ((Nat.zero_add _).trans_le h)
  simp only [runStartWrite, hfits, if_true]
  split
  · exact hload.then_transaction.completes (transaction_ie _)
  · exact hload.then_raise.completes rfl

theorem runPlain_answers (op : DevOp) (s : State) : answersFrom s State.completed (runPlain op s) :=
  (RunsOn.refl s).then_enter.then_transaction.completes (transaction_ie _)

theorem runAwait_answers {s : State} (h : s.operating) :
    answersFrom s (fun t => t.completed ∨ t.awaiting) (runAwait s) := by
  have hrun : RunsOn s (runPolls s) := (RunsOn.refl s).then_runPolls
  have hoperating := runPolls_operating h
  have hie := runPolls_ie s
  have hcurop := runPolls_curop s
  simp only [runAwait]
  generalize runPolls s = t at hrun hoperating hie hcurop ⊢
  split
  next hpolling =>
    obtain ⟨hok, hwip⟩ := Bool.and_eq_true_iff.1 hpolling
    exact ⟨_, rfl, hrun.opnd, hie, hrun.bufSize, .inr (suspend_awaiting hoperating hcurop hok hwip)⟩
  next => exact (hrun.completes hie).imp fun _ => .inl

theorem chunkLoop_answers (fuel : Nat) {s : State} (h : s.operating) :
    answersFrom s (fun t => t.completed ∨ t.awaiting) (.next (chunkLoop fuel s)) := by
  induction fuel generalizing s with
  | zero => exact ((RunsOn.refl s).completes rfl).imp fun _ => .inl
  | succ fuel ih =>
    have hrun : RunsOn s (runChunk s) := (RunsOn.refl s).then_runChunk
    have hoperating := runChunk_operating h
    have hie := runChunk_ie s
    have hcurop := runChunk_curop (s := s)
    simp only [chunkLoop]
    generalize runChunk s = t at hrun hoperating hie hcurop ⊢
    split
    · exact ((RunsOn.refl s).completes rfl).imp fun _ => .inl
    · split
      next => exact (hrun.completes hie).imp fun _ => .inl
      next hok =>
        have hok : t.seq.ok = true := by simpa using hok
        split
        next hwip => exact ⟨_, rfl, hrun.opnd, hie, hrun.bufSize, .inr (suspend_awaiting hoperating (hcurop hok) hok hwip)⟩
        next =>
          obtain ⟨u, hu, hopnd, hie', hsize, hending⟩ := ih (advanceChunk_operating hoperating)
          exact ⟨u, hu, hopnd.trans hrun.opnd, hie'.trans hie, hsize.trans hrun.bufSize, hending⟩

theorem runSimpleWrite_answers {s : State} (h : s.operating) (hfits : s.opnd.length.toNat ≤ s.host.bufSize) :
    answersFrom s (fun t => t.completed ∨ t.awaiting) (runSimpleWrite s) := by
  have hload : (loadPagedOperands s).operating := ⟨h.busy, h.done, h.inited⟩
  obtain ⟨t, ht, hanswers⟩ := chunkLoop_answers ((loadPagedOperands s).orch.rem.toNat + 1) hload
  exact ⟨t, (if_pos hfits).trans ht, hanswers⟩

/-- A request that is not ignored: its operation answers, or `init` has not run and it is refused. -/
theorem hostRequest_answers {s : State} (hbusy : s.res.busy = false) (i : Instr)
    {operation : State → Host.Outcome State Fault Refusal} {ending : State → Prop} (hending : ∀ t, t.completed → ending t)
    (hop : (start (present i) s).operating →
      answersFrom (start (present i) s) ending (operation (start (present i) s))) :
    answersFrom (start (present i) s) ending (hostRequest i operation s) := by
  cases hinit : s.inited with
  | true =>
    rw [hostRequest_ready ⟨hbusy, hinit⟩]
    exact hop ⟨rfl, rfl, hinit⟩
  | false =>
    exact ⟨_, hostRequest_uninitialised hbusy hinit i operation, rfl, rfl, rfl, hending _ ⟨rfl, rfl, rfl, rfl⟩⟩

theorem execInit_answers {s : State} (hbusy : s.res.busy = false) :
    answersFrom (start (present .init) s) State.completed (execInit s) := by
  rw [execInit, hbusy]
  exact ⟨_, rfl, rfl, rfl, rfl, complete_completed _⟩

/-- The two operations that end with completion polls (43_device_operations.md R206, 44_paged_write.md R220). -/
def pollsForCompletion (i : Instr) : Prop :=
  (∃ dev, i = .awaitWriteComplete dev) ∨ ∃ dev offset length, i = .simpleWrite dev offset length

/-- How a request that is not ignored leaves the handshake: completed, or between two of its polls. -/
def requestEnds (i : Instr) (t : State) : Prop :=
  t.completed ∨
  (t.res.done = false ∧ t.res.busy = true ∧ t.seq.phase = .gap ∧ t.seq.curop = .op .await ∧ t.seq.ok = true ∧
    t.res.statusR.getLsbD 0 = true ∧ pollsForCompletion i)

/-- Settles O40: a request completes, or its polls have not ended and it stands between two of them. -/
theorem requestsAnswer : Obligations.RequestsAnswer := by
  intro i s hi hbusy hfits
  have hcompletes (h : answersFrom (start (present i) s) State.completed (exec i s)) :
      answersFrom (start (present i) s) (requestEnds i) (exec i s) :=
    h.imp fun _ => .inl
  have hpolls (hwhy : pollsForCompletion i)
      (h : answersFrom (start (present i) s) (fun t => t.completed ∨ t.awaiting) (exec i s)) :
      answersFrom (start (present i) s) (requestEnds i) (exec i s) :=
    h.imp fun _ hend => hend.imp_right fun ⟨hdone, hbusy, hphase, hcurop, hok, hwip⟩ =>
      ⟨hdone, hbusy, hphase, hcurop, hok, hwip, hwhy⟩
  show answersFrom (start (present i) s) (requestEnds i) (exec i s)
  cases i with
  | init => exact hcompletes (execInit_answers hbusy)
  | read dev offset length =>
    have hlen := hfits dev offset length (.inl rfl)
    exact hcompletes (hostRequest_answers hbusy _ (fun _ => id) fun _ => runRead_answers hlen)
  | startWrite dev offset length =>
    have hlen := hfits dev offset length (.inr (.inl rfl))
    have hop : (2#4 : BitVec 4) ≠ 8#4 := by decide
    exact hcompletes (hostRequest_answers hbusy _ (fun _ => id) fun _ => runStartWrite_answers hop hlen)
  | enableWrite | disableWrite | readStatus | writeStatus =>
    exact hcompletes (hostRequest_answers hbusy _ (fun _ => id) fun _ => runPlain_answers _ _)
  | awaitWriteComplete dev =>
    exact hpolls (.inl ⟨dev, rfl⟩) (hostRequest_answers hbusy _ (fun _ => .inl) runAwait_answers)
  | simpleWrite dev offset length =>
    have hlen := hfits dev offset length (.inr (.inr rfl))
    exact hpolls (.inr ⟨dev, offset, length, rfl⟩)
      (hostRequest_answers hbusy _ (fun _ => .inl) fun h => runSimpleWrite_answers h hlen)
  | reserved9 | reserved10 | reserved11 | reserved12 | reserved13 | reserved14 | reserved15 =>
    exact hcompletes ⟨_, reservedRequest_idle hbusy _, rfl, rfl, rfl, rfl, rfl, rfl, rfl⟩
  | _ => cases hi

end Sys2Proof.Machine

/-! PROOF. The bus primitives (40_bus_primitive.md R140 to R143). A sample is the wire's level, which goes by who drives the
line: the uncontended master, or while the line is released the environment, else the pull-up. -/

namespace Sys2Proof.Machine

/-! ## The wire's level -/

/-- A line the master drives and nobody drives against is at the latch's level (R142). -/
theorem wireLevel_driven {s : State} (hdir : s.line.dir = .output)
    (hquiet : driveAt s 0 = none ∨ driveAt s 0 = some s.line.lvl) : wireLevel s = s.line.lvl := by
  rw [wireLevel, hdir, resolveWire_uncontended hquiet]

/-- A released line is at the environment's level, or pulled up (R142). -/
theorem wireLevel_released {s : State} (hdir : s.line.dir = .input) : wireLevel s = releasedLevel (driveAt s 0) := by
  rw [wireLevel, hdir, resolveWire_input]

/-- `DIR(out)` puts the latch on a pad nobody else drives, whatever the direction was (R140). -/
theorem wireLevel_dirOp_output {s : State} (hquiet : driveAt s 0 = none) : wireLevel (dirOp .output s) = s.line.lvl :=
  wireLevel_driven (s := dirOp .output s) rfl (.inl hquiet)

/-- Settles O12: the direction has no part in the latch or in the environment's next answer, so `DIR(out)` meets a quiet line
with the latch as it was last written. -/
theorem directionOp : Obligations.DirectionOp := by
  intro d s
  refine ⟨rfl, wireLevel_dirOp_output, fun hquiet v => ?_⟩
  exact wireLevel_dirOp_output (s := lvlOp v (dirOp .input s)) hquiet

/-! ## Samples -/

/-- A sample uses up one answer and nothing else (R143). -/
theorem nextSample_eq (s : State) : nextSample s = { s with env := s.env.after 1 } := by
  rw [← nextSample_env]
  rfl

/-- Settles O13: a sample is the wire's level, resolved by the direction and what the environment drives. -/
theorem levelAndSample : Obligations.LevelAndSample := by
  intro v s
  refine ⟨rfl, ?sampleA, ?sampleB, wireLevel_driven, ?pulledUp, ?environment⟩
  case sampleA => rw [sampleA, nextSample_eq]
  case sampleB => rw [sampleB, nextSample_eq]
  case pulledUp =>
    intro hdir hquiet
    rw [wireLevel_released hdir, hquiet]
    rfl
  case environment =>
    intro b hdir hdrive
    rw [wireLevel_released hdir, hdrive]
    rfl

end Sys2Proof.Machine

/-! PROOF. Byte framing (41_byte_framing.md R160 to R164, R169): what one frame leaves in the frame engine, where the byte
counter of a run stands, and what a run of receptions stores. -/

namespace Sys2Proof.Machine

/-- The frame engine is its four registers (10_state.md R27 to R30). -/
theorem frame_eq_of_fields {r : FrameRegs} {b : Byte} {k : Fin 10} {m a : Bool} (hshr : r.shr = b) (hslot : r.slot = k)
    (hmakb : r.makb = m) (hack : r.ack = a) : r = { shr := b, slot := k, makb := m, ack := a } := by
  subst hshr hslot hmakb hack
  rfl

/-! ## A transmitted frame -/

/-- The shift of a transmitted slot (10_state.md R27, R160). -/
theorem extractLsb'_append_zero (x : Byte) : x.extractLsb' 0 7 ++ 0#1 = x <<< 1 :=
  (BitVec.shiftLeft_eq_concat_of_lt (x := x) (n := 1) (by decide)).symm

theorem sendSlots_shr (s : State) (ks : List (Fin 10)) : (ks.foldl sendSlot s).frame.shr = s.frame.shr <<< ks.length := by
  induction ks generalizing s with
  | nil => exact (BitVec.shiftLeft_zero _).symm
  | cons k ks ih => rw [List.foldl_cons, ih, sendSlot_eq, extractLsb'_append_zero, List.length_cons, Nat.add_comm,
      BitVec.shiftLeft_add]

/-- A transmitted byte is shifted out entirely by its eight slots (R160). -/
theorem sendByte_shr (v : Byte) (more : Bool) (s : State) : (sendByte v more s).frame.shr = 0#8 := by
  rw [sendByte, sakSlot_eq, makSlot_eq]
  exact (sendSlots_shr _ _).trans (BitVec.shiftLeft_eq_zero le_rfl)

theorem length_shape_sent (v : Byte) (mak : Bool) : (BusFrame.shape (.sent v mak)).length = 82 := rfl

/-- Settles O16: eight shifts empty `SHR`, and slot 9 is decoded from its two samples alone. -/
theorem sentFrame : Obligations.SentFrame := by
  intro v more s
  obtain ⟨hline, henv, hack, hmakb, hslot, hqtr, htmr, hsame⟩ := sendByte_spec v more s
  exact ⟨frame_eq_of_fields (sendByte_shr v more s) hslot hmakb hack, sendByte_traced v more s,
    length_shape_sent v more, hline, hqtr, htmr, henv, hsame⟩

/-! ## A received frame -/

/-- A received frame leaves the eight decoded slots in `SHR`, whatever it held, and its flag in `MAKB` (R161). -/
theorem receiveByte_shr_makb (more : Bool) (s : State) :
    (receiveByte more s).frame.shr = byteAt s 0 ∧ (receiveByte more s).frame.makb = more := by
  obtain ⟨-, -, -, hmakb, hshr⟩ := receiveSlots_env (dirOp .input (setMakb more s)) dataSlots rfl
  rw [receiveByte, sakSlot_eq, makSlot_eq]
  simp only [storeReceived_frame, dirOp_frame]
  exact ⟨hshr.trans (foldl_shiftIn_eq_byteAt _ _), hmakb⟩

theorem length_shape_received (mak : Bool) : (BusFrame.shape (.received mak)).length = 84 := rfl

/-- Settles O17: the eight shifts of `SHR` bring in the eight decoded slots. -/
theorem receivedFrame : Obligations.ReceivedFrame := by
  intro more s
  obtain ⟨hline, henv, hack, hslot, hqtr, htmr, hseq, -⟩ := receiveByte_spec more s
  obtain ⟨hshr, hmakb⟩ := receiveByte_shr_makb more s
  have hrun := receiveByte_run more s
  exact ⟨frame_eq_of_fields hshr hslot hmakb hack, receiveByte_traced more s,
    length_shape_received more, hline, hqtr, htmr, henv, hrun.desc, hrun.opnd, hseq, hrun.orch, hrun.savedIe, hrun.inited,
    hrun.success, hrun.busy, hrun.done, hrun.ie, hrun.bufSize⟩

/-! ## The byte counter of a run (10_state.md R45) -/

/-- `BYTEIDX` after the frames of a run from index `first` on with `left` frames to go: the last frame's index, and
untouched by an empty run. -/
def indexAfter (s : State) (first left : Nat) : Half :=
  if left = 0 then s.seq.byteidx else BitVec.ofNat 16 (first + (framesRun s 0 left - 1))

/-- The counter after frame `i` alone, if it fails, or after the rest of the run. -/
theorem FrameDone.indexAfter_succ {f : BusFrame} {s t : State} {i : Nat} (h : FrameDone f (setByteidx i s) t) (left : Nat) :
    indexAfter s i (left + 1) = if t.frame.ack then indexAfter t (i + 1) left else t.seq.byteidx := by
  have hack : t.frame.ack = ackAt s (20 * 0) := h.lastFrame.2
  have henv : t.env = s.env.after (20 * 1) := h.env
  have hindex : t.seq.byteidx = BitVec.ofNat 16 i := by rw [h.seq]; rfl
  rw [indexAfter, if_neg left.succ_ne_zero, framesRun, ← hack, hindex]
  cases t.frame.ack with
  | false => rfl
  | true =>
    rw [if_pos rfl, if_pos rfl]
    obtain rfl | hleft := Nat.eq_zero_or_pos left
    · exact hindex.symm
    · have hpos := framesRun_pos s 1 hleft.ne'
      rw [indexAfter, if_neg hleft.ne', framesRun_after henv]
      congr 1
      simp only [Nat.add_zero, Nat.zero_add]
      omega

theorem sendBuffer_byteidx {n left : Nat} (data : State → Nat → Byte) (terminate : Bool) (s : State) (hleft : left ≤ n) :
    (sendBuffer data n terminate left s).seq.byteidx = indexAfter s (n - left) left := by
  induction left generalizing s with
  | zero => rfl
  | succ left ih =>
    have hnext : n - (left + 1) + 1 = n - left := by omega
    rw [(sendByte_done (data (setByteidx (n - (left + 1)) s) (n - (left + 1))) (makSend (n - (left + 1)) n terminate)
      _).indexAfter_succ, hnext, ← ih _ (by omega)]
    simp only [sendBuffer]
    split <;> rfl

theorem receiveBuffer_byteidx {n left : Nat} (s : State) (hleft : left ≤ n) :
    (receiveBuffer n left s).seq.byteidx = indexAfter s (n - left) left := by
  induction left generalizing s with
  | zero => rfl
  | succ left ih =>
    have hnext : n - (left + 1) + 1 = n - left := by omega
    rw [(receiveByte_done (makReceive (n - (left + 1)) n) _).indexAfter_succ, hnext, ← ih _ (by omega)]
    simp only [receiveBuffer]
    split <;> rfl

/-- A whole run begins at index 0. -/
theorem indexAfter_whole {s : State} {n : Nat} (hn : n ≠ 0) :
    indexAfter s (n - n) n = BitVec.ofNat 16 (framesRun s 0 n - 1) := by
  rw [indexAfter, if_neg hn, Nat.sub_self, Nat.zero_add]

/-! ## Runs -/

theorem length_sentRun (terminate : Bool) (bytes : List Byte) : (sentRun terminate bytes).length = bytes.length := by
  simp [sentRun]

theorem length_receivedRun (n : Nat) : (receivedRun n).length = n := by simp [receivedRun]

/-- What a run of `n` frames leaves, said with `n`. -/
theorem FramesDone.counted {frames : List BusFrame} {s t : State} {n : Nat} (h : FramesDone frames s t)
    (hn : frames.length = n) :
    traced s t (framesShape (frames.take (framesRun s 0 n))) ∧ t.env = s.env.after (20 * framesRun s 0 n) ∧
    t.seq.ok = (s.seq.ok && allAcked s 0 n) ∧
    (n ≠ 0 → t.line = { dir := .output, lvl := true } ∧ t.frame.ack = ackAt s (20 * (framesRun s 0 n - 1))) := by
  subst hn
  refine ⟨h.trace, h.env, h.ok, fun hne => ?_⟩
  obtain ⟨hline, -, -, hack⟩ := h.atRest (mt List.length_eq_zero_iff.2 hne)
  exact ⟨hline, hack⟩

/-- Settles O18: both sources read the descriptor and the host's buffer alone, which no frame changes. -/
theorem sendRun : Obligations.SendRun := by
  intro source n terminate s hsource
  have hdata : ∀ (t : State) (i : Nat), t.desc = s.desc → t.host = s.host → source t i = source s i := by
    obtain rfl | rfl := hsource
    · intro t i hdesc _
      simp only [hdesc]
    · intro t i hdesc hhost
      simp only [hdesc, hhost]
  obtain ⟨htrace, henv, hok, hrest⟩ := (sendBuffer_done n terminate s hdata).counted (n := n) (by simp [length_sentRun])
  have hrun := sendBuffer_run source n terminate n s
  exact ⟨by rintro rfl; rfl, hok, fun hn => (sendBuffer_byteidx source terminate s le_rfl).trans (indexAfter_whole hn),
    hrun.phase, hrun.curop, htrace, henv, hrest, hrun.desc, hrun.opnd, sendBuffer_res .., hrun.orch, hrun.savedIe, hrun.inited,
    sendBuffer_host ..⟩

/-- Settles O19: receptions run as sent frames do, and their store is outside all that is said here. -/
theorem receiveRun : Obligations.ReceiveRun := by
  intro n s
  obtain ⟨htrace, henv, hok, hrest⟩ := (receiveBuffer_done n s).counted (length_receivedRun n)
  have hrun := receiveBuffer_run n n s
  exact ⟨by rintro rfl; rfl, hok, fun hn => (receiveBuffer_byteidx s le_rfl).trans (indexAfter_whole hn), hrun.phase,
    hrun.curop, htrace, henv, hrest, hrun.desc, hrun.opnd, hrun.orch, hrun.savedIe, hrun.inited,
    hrun.success, hrun.busy, hrun.done, hrun.ie, hrun.bufSize⟩

/-! ## What a run of receptions stores -/

/-- Without a destination a received byte is not stored (R169). -/
theorem storeReceived_none {s : State} (h : s.desc.pdir = .none ∨ s.desc.pdir = .tx) : storeReceived s = s := by
  unfold storeReceived
  obtain h | h := h <;> rw [h]

theorem receiveByte_unstored (more : Bool) {s : State} (h : s.desc.pdir = .none ∨ s.desc.pdir = .tx) :
    (receiveByte more s).host = s.host ∧ (receiveByte more s).res = s.res := by
  obtain ⟨hres, hhost⟩ := receiveByte_stores more s
  rw [storeReceived_none (s := setShr (byteAt s 0) s) h] at hres hhost
  exact ⟨hhost, hres⟩

theorem receiveBuffer_unstored {n left : Nat} {s : State} (h : s.desc.pdir = .none ∨ s.desc.pdir = .tx) :
    (receiveBuffer n left s).host = s.host ∧ (receiveBuffer n left s).res = s.res := by
  induction left generalizing s with
  | zero => exact ⟨rfl, rfl⟩
  | succ left ih =>
    obtain ⟨hhost, hres⟩ := receiveByte_unstored (makReceive (n - (left + 1)) n) (s := setByteidx (n - (left + 1)) s) h
    have hrun := receiveByte_run (makReceive (n - (left + 1)) n) (setByteidx (n - (left + 1)) s)
    simp only [receiveBuffer]
    split
    · obtain ⟨hhost', hres'⟩ := ih (by rw [hrun.desc]; exact h)
      exact ⟨hhost'.trans hhost, hres'.trans hres⟩
    · exact ⟨hhost, hres⟩

/-- Settles O20: reception `i` writes at `PBASE + i` before its acknowledgment is known, so a failing frame's byte is kept. -/
theorem receivedRunStored : Obligations.ReceivedRunStored := by
  intro n s hn
  refine ⟨fun hdir => ?buffer, receiveBuffer_status, receiveBuffer_unstored⟩
  case buffer =>
    have hbuffer := receiveBuffer_buffer hn le_rfl hdir
    rwa [Nat.sub_self] at hbuffer

end Sys2Proof.Machine

/-! PROOF. The line (30_encoding.md R122; 41_byte_framing.md R165; 42_command_protocol.md R186): outside the pulses and the frames
it is driven high with the slot engine at rest; inside a frame its direction and level go by the slot and the quarter. -/

namespace Sys2Proof.Machine

/-! ## The line at rest -/

/-- The clauses of the invariant on the line and the slot engine. -/
structure State.lineSound (s : State) : Prop where
  slotsRest : s.slotsRest
  lineDriven : s.lineDriven
  slotLevel : s.slotLevel
  lineHigh : s.lineHigh

/-- The slot engine rests, the latch is high, and the line is driven once `init` has completed. -/
structure State.atRest (s : State) : Prop where
  qtr : s.slotE.qtr = 0
  tmr : s.slotE.tmr = 0
  lvl : s.line.lvl = true
  dir : s.inited = true → s.line.dir = .output

/-- What every frame and `init` leave: the slot engine at rest and the line driven high (41_byte_framing.md R165). -/
structure State.drivenHigh (s : State) : Prop where
  line : s.line = { dir := .output, lvl := true }
  qtr : s.slotE.qtr = 0
  tmr : s.slotE.tmr = 0

theorem State.drivenHigh.atRest {s : State} (h : s.drivenHigh) : s.atRest :=
  ⟨h.qtr, h.tmr, by rw [h.line], fun _ => by rw [h.line]⟩

theorem State.drivenHigh.congr {s t : State} (h : s.drivenHigh) (hline : t.line = s.line) (hslotE : t.slotE = s.slotE) :
    t.drivenHigh :=
  ⟨hline.trans h.line, by rw [hslotE, h.qtr], by rw [hslotE, h.tmr]⟩

/-- The registers that a line at rest is a matter of. -/
def State.lineState (s : State) : LineRegs × SlotRegs × Bool := (s.line, s.slotE, s.inited)

theorem State.atRest.congr {s t : State} (h : s.atRest) (ht : t.lineState = s.lineState) : t.atRest := by
  simp only [State.lineState, Prod.mk.injEq] at ht
  obtain ⟨hline, hslotE, hinited⟩ := ht
  exact ⟨by rw [hslotE, h.qtr], by rw [hslotE, h.tmr], by rw [hline, h.lvl], by rw [hline, hinited]; exact h.dir⟩

theorem listening_of_not_frame {s : State} (hp : isFramePhase s.seq.phase = false) : s.listening = false := by
  rw [State.listening, hp, Bool.false_and]

/-- The first quarter of slot 0 has not released the line yet. -/
theorem listening_at_frame_start {s : State} (hslot : s.frame.slot = 0) (hqtr : s.slotE.qtr = 0) : s.listening = false := by
  simp [State.listening, hslot, hqtr]

theorem State.atRest.lineSound {s : State} (h : s.atRest) (hlistening : s.listening = false) : s.lineSound where
  slotsRest := ⟨fun _ => h.qtr, h.tmr⟩
  lineDriven := by rw [State.lineDriven, hlistening]; exact h.dir
  slotLevel := fun _ => by simp [h.qtr]
  lineHigh := fun _ => h.lvl

/-- The sequencer goes on to a phase outside the frames, the line as it was. -/
theorem State.atRest.setPhase {s u : State} {p : Phase} (h : s.atRest) (hu : u.lineState = s.lineState)
    (hp : isFramePhase p = false) : (setPhase p u).lineSound :=
  (h.congr (t := Machine.setPhase p u) hu).lineSound (listening_of_not_frame hp)

theorem State.atRest.complete {s : State} (h : s.atRest) : (complete s).lineSound :=
  (h.congr (t := Machine.complete s) rfl).lineSound (listening_of_not_frame rfl)

/-- The sequencer goes on to the next frame. -/
theorem State.atRest.nextFrame {s : State} (h : s.atRest) (p : Phase) (i : Nat) : (nextFrame p i s).lineSound :=
  (h.congr (t := Machine.nextFrame p i s) rfl).lineSound (listening_at_frame_start rfl h.qtr)

/-- Between the pulses, the frames and the operations the line is at rest. -/
theorem State.lineSound.atRest {s : State} {p : Phase} (h : s.lineSound) (hp : s.seq.phase = p)
    (hframe : isFramePhase p = false) (hhigh : restsHigh p = true) : s.atRest := by
  subst hp
  obtain ⟨hqtr, htmr⟩ := h.slotsRest
  have hdriven := h.lineDriven
  rw [State.lineDriven, listening_of_not_frame hframe] at hdriven
  exact ⟨hqtr hframe, htmr, h.lineHigh hhigh, hdriven⟩

/-! ## The phases outside the frames -/

section
variable {s : State} (h : s.atRest)
include h

theorem fsmDispatch_lineSound : OnNext State.lineSound (fsmDispatch s) := by
  simp only [fsmDispatch]
  split
  · exact h.setPhase rfl rfl
  · split
    · exact h.setPhase rfl rfl
    · split
      · exact h.setPhase rfl rfl
      · split
        · exact h.setPhase rfl rfl
        · trivial
      · exact h.setPhase rfl rfl
      · exact h.setPhase rfl rfl
      · exact h.setPhase rfl rfl
      · exact h.setPhase rfl rfl
      · exact h.setPhase rfl rfl
      · exact h.setPhase rfl rfl
      · split
        · exact h.setPhase rfl rfl
        · trivial

theorem fsmPrecheck_lineSound : OnNext State.lineSound (fsmPrecheck s) := by
  unfold fsmPrecheck
  split
  · split
    · exact h.setPhase rfl rfl
    · trivial
  · exact h.setPhase rfl rfl

theorem fsmCsExit_lineSound : (fsmCsExit s).lineSound := by
  simp only [fsmCsExit]
  split
  · exact h.setPhase rfl rfl
  · split
    · exact h.setPhase rfl rfl
    · split
      · exact h.setPhase rfl rfl
      · split
        · exact h.setPhase rfl rfl
        · exact h.setPhase rfl rfl

theorem fsmPollTest_lineSound : (fsmPollTest s).lineSound := by
  unfold fsmPollTest
  split
  · exact h.setPhase rfl rfl
  · split
    · exact h.setPhase rfl rfl
    · exact h.setPhase rfl rfl

theorem fsmChunkCalc_lineSound : (fsmChunkCalc s).lineSound := by
  unfold fsmChunkCalc
  split
  · exact h.setPhase rfl rfl
  · exact h.setPhase rfl rfl

end

/-- The latch is written high and an interval waited: the line is at rest whatever its level was (R180, R181). -/
theorem State.lineSound.raised {s : State} {p : Phase} (h : s.lineSound) (hp : s.seq.phase = p)
    (hframe : isFramePhase p = false) (i : Config.Interval) : (dly i (lvlOp true s)).atRest := by
  subst hp
  obtain ⟨hqtr, -⟩ := h.slotsRest
  have hdriven := h.lineDriven
  rw [State.lineDriven, listening_of_not_frame hframe] at hdriven
  exact ⟨hqtr hframe, rfl, rfl, hdriven⟩

/-- The pulse's low half (R180): driven, and not asked to be high. -/
theorem stbyLow_lineSound {s : State} (h : s.atRest) :
    (setPhase .stbyHigh (dly .setup (lvlOp false (setOk true s)))).lineSound where
  slotsRest := ⟨fun _ => h.qtr, rfl⟩
  lineDriven := h.dir
  slotLevel := nofun
  lineHigh := nofun

/-- The header's low hold (R182): the frame after it has not begun its first slot. -/
theorem fsmHdrHold_lineSound {s : State} (h : s.atRest) : (fsmHdrHold s).lineSound where
  slotsRest := ⟨fun _ => h.qtr, rfl⟩
  lineDriven := by
    rw [State.lineDriven, listening_at_frame_start (s := fsmHdrHold s) rfl h.qtr]
    exact h.dir
  slotLevel := fun _ => by
    have hqtr : (fsmHdrHold s).slotE.qtr = 0 := h.qtr
    simp [hqtr]
  lineHigh := nofun

/-! ## Inside a frame -/

/-- The slot is one of a frame's released ones (41_byte_framing.md R165). -/
def State.inReleasedSlot (s : State) : Bool := s.frame.slot == 9 || (isReceiving s && decide (s.frame.slot.val < 8))

/-- Inside a slot, what precedes it done: the line is released as the slot asks, and holds the level of the quarter. -/
structure State.inSlot (s : State) : Prop where
  frame : isFramePhase s.seq.phase = true
  tmr : s.slotE.tmr = 0
  dir : s.inited = true → s.line.dir = if s.inReleasedSlot then .input else .output
  level : s.slotLevel

/-- After the last quarter of a slot, what follows it yet to be done. -/
structure State.slotDone (s : State) : Prop where
  frame : isFramePhase s.seq.phase = true
  qtr : s.slotE.qtr = 0
  tmr : s.slotE.tmr = 0
  dir : s.inited = true → s.line.dir = if s.inReleasedSlot then .input else .output
  lvl : s.line.lvl = slotInput s

theorem restsHigh_of_frame {p : Phase} (h : isFramePhase p = true) : restsHigh p = false := by
  revert h
  cases p <;> decide

/-- Past the first quarter of a slot the line is released exactly in the released ones. -/
theorem listening_inside_slot {s : State} (hframe : isFramePhase s.seq.phase = true) (hqtr : s.slotE.qtr ≠ 0) :
    s.listening = s.inReleasedSlot := by
  have hinside : (s.slotE.qtr != 0) = true := bne_iff_ne.2 hqtr
  simp [State.listening, State.inReleasedSlot, hframe, hinside]

/-- Before the first quarter it is so too, but where the slot's own release is still to come (45_sequencer_fsm.md R246). -/
theorem listening_before_slot {s : State} (hframe : isFramePhase s.seq.phase = true) (hqtr : s.slotE.qtr = 0)
    (hsak : s.frame.slot ≠ 9) (hfirst : ¬ (s.frame.slot = 0 ∧ isReceiving s = true)) :
    s.listening = s.inReleasedSlot := by
  have hdata : (s.frame.slot == 9) = false := beq_false_of_ne hsak
  by_cases hzero : s.frame.slot = 0
  · have hsend : isReceiving s = false := by simpa [hzero] using hfirst
    simp [State.listening, State.inReleasedSlot, hsend, hqtr, hdata]
  · have hlater : (s.frame.slot != 0) = true := bne_iff_ne.2 hzero
    simp [State.listening, State.inReleasedSlot, hframe, hqtr, hdata, hlater]

theorem State.inSlot.lineSound {s : State} (h : s.inSlot) (hqtr : s.slotE.qtr ≠ 0) : s.lineSound where
  slotsRest := ⟨by simp [h.frame], h.tmr⟩
  lineDriven := by rw [State.lineDriven, listening_inside_slot h.frame hqtr]; exact h.dir
  slotLevel := h.level
  lineHigh := by simp [State.lineHigh, restsHigh_of_frame h.frame]

/-- At the start of a slot of a frame only the direction is in question. -/
theorem State.lineSound.of_slot_start {s : State} (hframe : isFramePhase s.seq.phase = true) (hqtr : s.slotE.qtr = 0)
    (htmr : s.slotE.tmr = 0) (hdriven : s.lineDriven) : s.lineSound where
  slotsRest := ⟨fun _ => hqtr, htmr⟩
  lineDriven := hdriven
  slotLevel := fun _ => by simp [hqtr]
  lineHigh := by simp [State.lineHigh, restsHigh_of_frame hframe]

/-! What a step inside a frame does: the loads, the release, a quarter or the whole slot, and what follows. -/

/-- The loads of a frame write `SHR` and `MAKB`, at its very start (R243 to R245). -/
theorem frameStart_loads (s : State) :
    OnNext (fun t => t = s ∨ (s.slotE.qtr = 0 ∧ ∃ b m, t = setMakb m (setShr b s))) (frameStart s) := by
  unfold frameStart
  split
  next hstart =>
    have hqtr : s.slotE.qtr = 0 := by
      simp only [atFrameStart, Bool.and_eq_true, beq_iff_eq] at hstart
      exact hstart.2
    split
    · split
      · exact .inr ⟨hqtr, _, _, rfl⟩
      · trivial
    · split
      · exact .inr ⟨hqtr, _, _, rfl⟩
      · trivial
    · split
      · trivial
      · exact .inr ⟨hqtr, s.frame.shr, _, rfl⟩
    · exact .inl rfl
  next => exact .inl rfl

theorem frameStart_lineSound {s : State} (h : s.lineSound) (hframe : isFramePhase s.seq.phase = true) :
    OnNext (fun t => t.lineSound ∧ isFramePhase t.seq.phase = true ∧ t.slotE = s.slotE) (frameStart s) := by
  refine (frameStart_loads s).imp fun t ht => ?_
  obtain rfl | ⟨hqtr, b, m, rfl⟩ := ht
  · exact ⟨h, hframe, rfl⟩
  · obtain ⟨-, htmr⟩ := h.slotsRest
    have hdriven : (setMakb m (setShr b s)).lineDriven := h.lineDriven
    exact ⟨.of_slot_start hframe hqtr htmr hdriven, hframe, rfl⟩

theorem slotBefore_inSlot {s : State} (h : s.lineSound) (hframe : isFramePhase s.seq.phase = true)
    (hqtr : s.slotE.qtr = 0) : (slotBefore s).inSlot := by
  obtain ⟨-, htmr⟩ := h.slotsRest
  have hlevel : ∀ t : State, t.slotE.qtr = 0 → t.slotLevel := fun t ht _ => by simp [ht]
  unfold slotBefore
  split
  next hsak => exact ⟨hframe, htmr, fun _ => by simp [State.inReleasedSlot, hsak], hlevel _ hqtr⟩
  next hsak =>
    split
    next hfirst =>
      obtain ⟨hzero, hreceiving⟩ := hfirst
      have hreleased : (dirOp .input s).inReleasedSlot = true := by
        simp only [State.inReleasedSlot, isReceiving, dirOp_frame, dirOp_seq] at hreceiving ⊢
        simp [hzero, hreceiving]
      exact ⟨hframe, htmr, fun _ => by rw [hreleased]; rfl, hlevel _ hqtr⟩
    next hfirst =>
      have hdriven := h.lineDriven
      rw [State.lineDriven, listening_before_slot hframe hqtr hsak hfirst] at hdriven
      exact ⟨hframe, htmr, hdriven, hlevel _ hqtr⟩

theorem slotBefore_frame (s : State) : (slotBefore s).frame = s.frame := by
  unfold slotBefore
  split
  · rfl
  · split <;> rfl

theorem State.lineSound.inSlot {s : State} (h : s.lineSound) (hframe : isFramePhase s.seq.phase = true)
    (hqtr : s.slotE.qtr ≠ 0) : s.inSlot := by
  obtain ⟨-, htmr⟩ := h.slotsRest
  have hdriven := h.lineDriven
  rw [State.lineDriven, listening_inside_slot hframe hqtr] at hdriven
  exact ⟨hframe, htmr, hdriven, h.slotLevel⟩

/-- A quarter keeps the direction and the frame engine, moves `QTR` on and leaves the timer at rest (40_bus_primitive.md R152). -/
theorem quarter_keeps (w : Bool) (q : Fin 4) (s : State) :
    (quarter w q s).line.dir = s.line.dir ∧ (quarter w q s).frame = s.frame ∧ (quarter w q s).slotE.qtr = q + 1 ∧
      (quarter w q s).slotE.tmr = 0 := by
  unfold quarter
  split <;> exact ⟨rfl, rfl, rfl, rfl⟩

/-- The latch after a quarter: written at the slot's start and at its middle (40_bus_primitive.md R145). -/
theorem quarter_lvl (w : Bool) (s : State) :
    (quarter w 0 s).line.lvl = (!w) ∧ (quarter w 1 s).line.lvl = s.line.lvl ∧ (quarter w 2 s).line.lvl = w ∧
      (quarter w 3 s).line.lvl = s.line.lvl :=
  ⟨rfl, rfl, rfl, rfl⟩

theorem next_quarter_ne_zero : ∀ q : Fin 4, q ≠ 3 → q + 1 ≠ 0 := by decide

theorem slotInput_congr {s t : State} (hframe : t.frame = s.frame) (hseq : t.seq = s.seq) : slotInput t = slotInput s := by
  unfold slotInput isReceiving topBit
  rw [hframe, hseq]

theorem inReleasedSlot_congr {s t : State} (hframe : t.frame = s.frame) (hseq : t.seq = s.seq) :
    t.inReleasedSlot = s.inReleasedSlot := by
  simp only [State.inReleasedSlot, isReceiving, hframe, hseq]

section
variable {s : State} (h : s.inSlot)
include h

/-- A quarter other than the last leads to the next quarter of the slot. -/
theorem quarter_lineSound (hlast : s.slotE.qtr ≠ 3) : (quarter (slotInput s) s.slotE.qtr s).lineSound := by
  obtain ⟨hdir, hframe, hqtr, htmr⟩ := quarter_keeps (slotInput s) s.slotE.qtr s
  obtain ⟨hfirst, hsecond, hthird, -⟩ := quarter_lvl (slotInput s) s
  have hsame := quarter_frames (slotInput s) s.slotE.qtr s
  obtain ⟨hbefore, -⟩ := h.level h.frame
  have hinput := slotInput_congr hframe hsame.seq
  have hreleased := inReleasedSlot_congr hframe hsame.seq
  refine State.inSlot.lineSound ⟨by rw [hsame.seq]; exact h.frame, htmr, ?dir, fun _ => ?level⟩ ?inside
  case dir => rw [hdir, hsame.inited, hreleased]; exact h.dir
  case inside =>
    rw [hqtr]
    exact next_quarter_ne_zero _ hlast
  case level =>
    rw [hinput, hqtr]
    obtain hq | hq | hq | hq : s.slotE.qtr = 0 ∨ s.slotE.qtr = 1 ∨ s.slotE.qtr = 2 ∨ s.slotE.qtr = 3 := by omega
    · rw [hq, hfirst]; simp
    · rw [hq, hsecond, hbefore (.inl hq)]; simp
    · rw [hq, hthird]; simp
    · exact absurd hq hlast

/-- The last quarter ends the slot, the latch still at its value. -/
theorem quarter_slotDone (hlast : s.slotE.qtr = 3) : (quarter (slotInput s) s.slotE.qtr s).slotDone := by
  obtain ⟨hdir, hframe, hqtr, htmr⟩ := quarter_keeps (slotInput s) s.slotE.qtr s
  obtain ⟨-, -, -, hlvl⟩ := quarter_lvl (slotInput s) s
  have hsame := quarter_frames (slotInput s) s.slotE.qtr s
  obtain ⟨-, hafter⟩ := h.level h.frame
  refine ⟨by rw [hsame.seq]; exact h.frame, by rw [hqtr, hlast]; rfl, htmr, ?dir, ?level⟩
  case dir => rw [hdir, hsame.inited, inReleasedSlot_congr hframe hsame.seq]; exact h.dir
  case level => rw [slotInput_congr hframe hsame.seq, hlast, hlvl]; exact hafter hlast

/-- A whole slot ends with the latch at its value. -/
theorem exchangeBit_slotDone : (exchangeBit (slotInput s) s).slotDone :=
  ⟨h.frame, rfl, rfl, h.dir, rfl⟩

end

/-- The end of a frame (R242 to R245): the next one, or `CS_EXIT`. -/
theorem frameEnd_lineSound {s : State} (h : s.atRest) (hframe : isFramePhase s.seq.phase = true) : (frameEnd s).lineSound := by
  have hcommand : (commandFrameEnd s).lineSound := by
    unfold commandFrameEnd
    split
    · exact h.setPhase rfl rfl
    · split
      · exact h.nextFrame _ _
      · split
        · exact h.setPhase rfl rfl
        · split
          · exact h.nextFrame _ _
          · exact h.nextFrame _ _
          · exact h.nextFrame _ _
          · exact h.setPhase rfl rfl
  have hpayload : ∀ p, (payloadFrameEnd p s).lineSound := by
    intro p
    unfold payloadFrameEnd
    split
    · exact h.setPhase rfl rfl
    · split
      · exact h.nextFrame _ _
      · exact h.setPhase rfl rfl
  unfold frameEnd
  cases hp : s.seq.phase with
  | hdrFrame => exact h.nextFrame _ _
  | cmdFrame => exact hcommand
  | txFrame => exact hpayload .txFrame
  | rxFrame => exact hpayload .rxFrame
  | _ => simp [hp, isFramePhase] at hframe

/-- A data slot other than the last leads to a data slot other than the first. -/
theorem next_data_slot : ∀ k : Fin 10, k ≠ 9 → k ≠ 8 → k ≠ 7 → (k + 1).val < 8 ∧ k + 1 ≠ 0 := by decide

theorem data_slot_lt : ∀ k : Fin 10, k ≠ 9 → k ≠ 8 → k.val < 8 := by decide

theorem slotAfter_lineSound {s : State} (h : s.slotDone) : (slotAfter s).lineSound := by
  have hframe := h.frame
  have hqtr := h.qtr
  have hdir := h.dir
  simp only [slotAfter]
  split
  next hsak =>
    have hhigh : (setAck (observed (dirOp .output s)) (dirOp .output s)).drivenHigh :=
      ⟨by simp [h.lvl, slotInput, hsak], hqtr, h.tmr⟩
    exact frameEnd_lineSound hhigh.atRest hframe
  next hsak =>
    split
    next hmak =>
      have hdriven : s.inReleasedSlot = false := by simp [State.inReleasedSlot, hmak]
      have hnext : (setSlot 9 s).listening = false := by simp [State.listening, hqtr]
      refine .of_slot_start hframe hqtr h.tmr ?_
      rw [State.lineDriven, hnext]
      rw [hdriven] at hdir
      exact hdir
    next hmak =>
      split
      next hend =>
        obtain ⟨hseven, -⟩ := hend
        refine .of_slot_start (by simpa using hframe) (by simpa using hqtr) (by simpa using h.tmr) fun _ => ?_
        simp [State.listening, hqtr, hseven]
      next hend =>
        refine .of_slot_start hframe hqtr h.tmr ?_
        have hreleased : s.inReleasedSlot = isReceiving s := by
          simp [State.inReleasedSlot, hsak, data_slot_lt _ hsak hmak]
        have hnext : (setSlot (s.frame.slot + 1) (shiftIn (isReceiving s && observed s) s)).listening = isReceiving s := by
          cases hreceiving : isReceiving s with
          | false =>
            simp only [isReceiving] at hreceiving
            simp [State.listening, isReceiving, hqtr, hreceiving]
          | true =>
            obtain ⟨hlt, hne⟩ := next_data_slot _ hsak hmak fun hseven => hend ⟨hseven, hreceiving⟩
            simp only [isReceiving] at hreceiving
            simp [State.listening, isReceiving, hqtr, hreceiving, hframe, hlt, hne]
        rw [State.lineDriven, hnext]
        rw [hreleased] at hdir
        exact hdir

section
variable {s : State} (h : s.lineSound) (hframe : isFramePhase s.seq.phase = true)
include h hframe

theorem frameQuarter_lineSound : OnNext State.lineSound (frameQuarter s) := by
  refine (frameStart_lineSound h hframe).andThen fun t ht => ?_
  obtain ⟨hsound, htframe, -⟩ := ht
  have hslot : (if atSlotStart t then slotBefore t else t).inSlot := by
    split
    next hstart => exact slotBefore_inSlot hsound htframe (by simpa [atSlotStart] using hstart)
    next hstart => exact hsound.inSlot htframe (by simpa [atSlotStart] using hstart)
  generalize (if atSlotStart t then slotBefore t else t) = u at hslot ⊢
  show State.lineSound (if u.slotE.qtr = 3 then slotAfter (quarter (slotInput u) u.slotE.qtr u) else _)
  split
  next hlast => exact slotAfter_lineSound (quarter_slotDone hslot hlast)
  next hlast => exact quarter_lineSound hslot hlast

theorem slotStep_lineSound : OnNext State.lineSound (slotStep s) := by
  unfold slotStep
  split
  next hstart =>
    have hqtr : s.slotE.qtr = 0 := by simpa [atSlotStart] using hstart
    refine (frameStart_lineSound h hframe).andThen fun t ht => ?_
    obtain ⟨hsound, htframe, hslotE⟩ := ht
    have hslot := slotBefore_inSlot hsound htframe (by rw [hslotE]; exact hqtr)
    have hinput := slotInput_congr (slotBefore_frame t) (slotBefore_frames t).seq
    simp only [decode_slotCode, exec_slot, ← hinput]
    exact slotAfter_lineSound (exchangeBit_slotDone hslot)
  next => exact frameQuarter_lineSound h hframe

end

/-! ## Frames, commands and operations -/

theorem FramesDone.drivenHigh {frames : List BusFrame} {s t : State} (g : FramesDone frames s t)
    (h : frames ≠ [] ∨ s.drivenHigh) : t.drivenHigh := by
  by_cases hne : frames = []
  · obtain ⟨hline, hslotE, -⟩ := g.unmoved hne
    exact (h.resolve_left (absurd hne)).congr hline hslotE
  · obtain ⟨hline, ⟨hqtr, htmr⟩, -⟩ := g.atRest hne
    exact ⟨hline, hqtr, htmr⟩

theorem startHeader_drivenHigh (s : State) : (startHeader s).drivenHigh := by
  have hframe := sendByte_done Config.startHeader true (dly .hdr (lvlOp false s))
  obtain ⟨hqtr, htmr⟩ := hframe.slotsRest
  exact ⟨hframe.line, hqtr, htmr⟩

/-- A transaction leaves the line driven high, whatever it was before: the header alone does (R182, R192). -/
theorem transaction_drivenHigh (s : State) : (transaction s).drivenHigh := by
  have hheader := startHeader_drivenHigh (csEnter (leadIn (setOk true s)))
  have hok : (startHeader (csEnter (leadIn (setOk true s)))).seq.ok = true := by
    rw [(startHeader_frames _).seq, csEnter_seq]
    unfold leadIn
    split <;> rfl
  have hframes := (exchange_done hok).drivenHigh (.inr hheader)
  exact hframes.congr rfl rfl

theorem sendCommand_drivenHigh {d : DescRegs} (hlen : d.cmdlen.toNat ≠ 0) (s : State) : (sendCommand d s).drivenHigh := by
  have hne : commandFrames d ++ payloadFrames d s.host.buf ≠ [] := by
    intro hempty
    obtain ⟨hcommand, -⟩ := List.append_eq_nil_iff.1 hempty
    exact hlen (by rw [← length_commandFrames, hcommand]; rfl)
  have hdone := sendCommand_done s rfl hne
  obtain ⟨hqtr, htmr⟩ := hdone.slotsRest
  exact ⟨hdone.line, hqtr, htmr⟩

theorem pollLoop_drivenHigh (fuel : Nat) (s : State) : (pollLoop (fuel + 1) s).drivenHigh := by
  induction fuel generalizing s with
  | zero =>
    simp only [pollLoop]
    split <;> exact transaction_drivenHigh s
  | succ fuel ih =>
    rw [pollLoop]
    split
    · exact ih _
    · exact transaction_drivenHigh s

/-- At least one poll runs (log 19). -/
theorem runPolls_drivenHigh (s : State) : (runPolls s).drivenHigh := by
  have hpos : 0 < pollFuel (awaitOpen s) := Nat.lt_of_lt_of_le Nat.zero_lt_one (le_max_left _ _)
  obtain ⟨fuel, hfuel⟩ := Nat.exists_eq_succ_of_ne_zero hpos.ne'
  simp only [runPolls, hfuel]
  exact pollLoop_drivenHigh fuel _

theorem runChunk_drivenHigh (s : State) : (runChunk s).drivenHigh := by
  have henable := transaction_drivenHigh (enter .enableWrite (takeChunk s))
  simp only [runChunk]
  generalize transaction (enter .enableWrite (takeChunk s)) = t at henable ⊢
  split
  · split
    · split
      · exact runPolls_drivenHigh _
      · exact transaction_drivenHigh _
    · exact henable.congr rfl rfl
  · exact henable

theorem chunkLoop_lineSound (fuel : Nat) {s : State} (h : s.atRest) : (chunkLoop fuel s).lineSound := by
  induction fuel generalizing s with
  | zero => exact h.complete
  | succ fuel ih =>
    have hchunk := (runChunk_drivenHigh s).atRest
    simp only [chunkLoop]
    split
    · exact h.complete
    · split
      · exact hchunk.complete
      · split
        · exact hchunk.setPhase rfl rfl
        · exact ih (hchunk.congr rfl)

/-! ## Instructions -/

theorem runRead_lineSound (s : State) : OnNext State.lineSound (runRead s) := by
  simp only [runRead]
  split
  · exact (transaction_drivenHigh _).atRest.complete
  · trivial

theorem runStartWrite_lineSound {s : State} (h : s.atRest) : OnNext State.lineSound (runStartWrite s) := by
  have hraise : (raise .pageViolation (enter .startWrite (loadWriteOperands s))).atRest := h.congr rfl
  simp only [runStartWrite]
  split
  · split
    · exact (transaction_drivenHigh _).atRest.complete
    · trivial
  · exact hraise.complete

theorem runPlain_lineSound (op : DevOp) (s : State) : OnNext State.lineSound (runPlain op s) :=
  (transaction_drivenHigh _).atRest.complete

theorem runAwait_lineSound (s : State) : OnNext State.lineSound (runAwait s) := by
  have hpolls := (runPolls_drivenHigh s).atRest
  show (if stillPolling (runPolls s) then suspend (runPolls s) else complete (runPolls s)).lineSound
  split
  · exact hpolls.setPhase rfl rfl
  · exact hpolls.complete

theorem runSimpleWrite_lineSound {s : State} (h : s.atRest) : OnNext State.lineSound (runSimpleWrite s) := by
  have hload : (loadPagedOperands s).atRest := h.congr rfl
  simp only [runSimpleWrite]
  split
  · exact chunkLoop_lineSound _ hload
  · trivial

section
variable {s : State} (h : s.atRest) (hidle : s.seq.phase = .idle)
include h hidle

theorem State.atRest.lineSound_of_idle : s.lineSound := h.lineSound (listening_of_not_frame (by rw [hidle]; rfl))

theorem hostRequest_lineSound (i : Instr) {operation : State → Host.Outcome State Fault Refusal}
    (hop : ∀ {s : State}, s.atRest → OnNext State.lineSound (operation s)) :
    OnNext State.lineSound (hostRequest i operation s) := by
  have hraise : (raise .notInitialised (start (present i) s)).atRest := h.congr rfl
  exact hostRequest_onNext (h.lineSound_of_idle hidle) (fun _ => hop (h.congr rfl)) hraise.complete

theorem reservedRequest_lineSound (i : Instr) : OnNext State.lineSound (reservedRequest i s) := by
  have hraise : (raise .reservedCode (start (present i) s)).atRest := h.congr rfl
  unfold reservedRequest
  split
  · exact h.lineSound_of_idle hidle
  · exact hraise.complete

/-- `init` drives the line high (43_device_operations.md R193). -/
theorem execInit_lineSound : OnNext State.lineSound (execInit s) := by
  have hinit : (setInited (dirOp .output (lvlOp true (start (present .init) s)))).drivenHigh := ⟨rfl, h.qtr, h.tmr⟩
  unfold execInit
  split
  · exact h.lineSound_of_idle hidle
  · exact hinit.atRest.complete

theorem exec_request_lineSound {i : Instr} (hi : i.isRequest = true) : OnNext State.lineSound (exec i s) := by
  have hplain : ∀ op j, OnNext State.lineSound (hostRequest j (runPlain op) s) :=
    fun op j => hostRequest_lineSound h hidle j fun _ => runPlain_lineSound op _
  cases i with
  | init => exact execInit_lineSound h hidle
  | read dev offset length => exact hostRequest_lineSound h hidle _ fun _ => runRead_lineSound _
  | startWrite dev offset length => exact hostRequest_lineSound h hidle _ runStartWrite_lineSound
  | enableWrite dev => exact hplain .enableWrite _
  | disableWrite dev => exact hplain .disableWrite _
  | readStatus dev => exact hplain .readStatus _
  | writeStatus dev status => exact hplain .writeStatus _
  | awaitWriteComplete dev => exact hostRequest_lineSound h hidle _ fun _ => runAwait_lineSound _
  | simpleWrite dev offset length => exact hostRequest_lineSound h hidle _ runSimpleWrite_lineSound
  | reserved9 | reserved10 | reserved11 | reserved12 | reserved13 | reserved14 | reserved15 =>
    exact reservedRequest_lineSound h hidle _
  | _ => cases hi

end

/-- A wire command has command frames, so it leaves the line driven high. -/
theorem exec_wire_drivenHigh {i : Instr} (hi : i.isWire = true) (s : State) : OnNext State.drivenHigh (exec i s) := by
  have hbuffered : ∀ d : DescRegs, d.cmdlen.toNat ≠ 0 → OnNext State.drivenHigh (sendBufferedCommand d s) := by
    intro d hlen
    unfold sendBufferedCommand
    split
    · exact sendCommand_drivenHigh hlen s
    · trivial
  have hplain : ∀ d : DescRegs, d.cmdlen.toNat ≠ 0 → OnNext State.drivenHigh (.next (sendCommand d s)) :=
    fun d hlen => sendCommand_drivenHigh hlen s
  have htwo : (2 : BitVec 3).toNat ≠ 0 := by decide
  have hthree : (3 : BitVec 3).toNat ≠ 0 := by decide
  have hfour : (4 : BitVec 3).toNat ≠ 0 := by decide
  cases i with
  | wireRead dev hi lo => exact hbuffered _ hfour
  | wireWrite dev hi lo => exact hbuffered _ hfour
  | wireWren dev => exact hplain _ htwo
  | wireWrdi dev => exact hplain _ htwo
  | wireRdsr dev => exact hplain _ htwo
  | wireWrsr dev status => exact hplain _ hthree
  | _ => cases hi

/-- What the command buffer holds is a wire command, or an opcode that is refused (30_encoding.md R111). -/
theorem fetchWire_drivenHigh {s : State} {i : Instr} (h : fetchWire s = some i) (t : State) :
    OnNext State.drivenHigh (exec i t) := by
  unfold fetchWire at h
  split at h
  · cases h; trivial
  · split at h
    · cases h; trivial
    · split at h
      · cases h; trivial
      · split at h
        · split at h
          next hwire => cases h; exact exec_wire_drivenHigh hwire t
          next => cases h
        · cases h

/-! ## The step -/

theorem fsmStep_lineSound {s : State} (h : s.lineSound) : OnNext State.lineSound (fsmStep s) := by
  by_cases hframe : isFramePhase s.seq.phase = true
  · rw [fsmStep_frame hframe]
    exact frameQuarter_lineSound h hframe
  · unfold fsmStep
    cases hp : s.seq.phase with
    | idle => exact h
    | dispatch => exact fsmDispatch_lineSound (h.atRest hp rfl rfl)
    | precheck => exact fsmPrecheck_lineSound (h.atRest hp rfl rfl)
    | stbyLow => exact stbyLow_lineSound (h.atRest hp rfl rfl)
    | stbyHigh => exact (h.raised hp rfl .stby).setPhase rfl (by split <;> rfl)
    | gap => exact (h.raised hp rfl .gap).setPhase rfl rfl
    | csEnter => exact (h.atRest hp rfl rfl).setPhase rfl rfl
    | hdrHold => exact fsmHdrHold_lineSound (h.atRest hp rfl rfl)
    | hdrFrame | cmdFrame | txFrame | rxFrame => simp [hp, isFramePhase] at hframe
    | csExit => exact fsmCsExit_lineSound (h.atRest hp rfl rfl)
    | pollTest => exact fsmPollTest_lineSound (h.atRest hp rfl rfl)
    | chunkCalc => exact fsmChunkCalc_lineSound (h.atRest hp rfl rfl)
    | chunkAdv => exact (h.atRest hp rfl rfl).setPhase rfl rfl
    | initDo =>
      have hinit : (setInited (dirOp .output (lvlOp true s))).drivenHigh :=
        ⟨rfl, (h.atRest hp rfl rfl).qtr, (h.atRest hp rfl rfl).tmr⟩
      exact hinit.atRest.setPhase rfl rfl
    | finish => exact (h.atRest hp rfl rfl).complete

theorem engineStep_lineSound {s : State} (h : s.lineSound) : OnNext State.lineSound (engineStep s) := by
  unfold engineStep
  split
  next => exact (startHeader_drivenHigh s).atRest.nextFrame _ _
  next hp =>
    have hframe : isFramePhase s.seq.phase = true := by rw [hp]; rfl
    split
    · split
      next i hi =>
        refine (fetchWire_drivenHigh hi s).andThen fun t ht => ?_
        exact ht.atRest.setPhase (p := .csExit) rfl rfl
      next => exact slotStep_lineSound h hframe
    · exact slotStep_lineSound h hframe
  next hp => exact slotStep_lineSound h (by rw [hp]; rfl)
  next hp => exact slotStep_lineSound h (by rw [hp]; rfl)
  next hp => exact slotStep_lineSound h (by rw [hp]; rfl)
  next => exact fsmStep_lineSound h

theorem hardReset_lineSound (s : State) : (hardReset s).lineSound := by
  have hrest : (hardReset s).atRest := ⟨rfl, rfl, rfl, nofun⟩
  exact hrest.lineSound_of_idle rfl

/-- Every move of the host keeps the line's clauses; a request or a pulse of START finds the line at rest. -/
theorem hostMove_lineSound (m : HostMove) {s : State} (h : s.lineSound) (hcontrolled : s.controlled) :
    OnNext State.lineSound (hostMove m s) := by
  have hidle : s.res.busy = false → s.seq.phase = .idle := by
    intro hbusy
    obtain ⟨-, hidle⟩ | hrun := hcontrolled.idle_or_underWay
    · exact hidle
    · exact absurd hrun.busy (by simp [hbusy])
  have hwrite : ∀ t : State, t.lineSound → OnNext State.lineSound (hostWrite s t) :=
    fun t ht => hostWrite_onNext fun _ => ht
  cases m with
  | wait => exact engineStep_lineSound h
  | tick => exact fsmStep_lineSound h
  | start =>
    simp only [hostMove, hostStart]
    split
    · exact h
    next hbusy =>
      have hphase := hidle (by simpa using hbusy)
      split
      next i hi => exact exec_request_lineSound (h.atRest hphase rfl rfl) hphase (fetchRequest_isRequest hi)
      next => trivial
  | startPulse =>
    simp only [hostMove, hostStartPulse]
    split
    · exact h
    next hbusy => exact (h.atRest (hidle (by simpa using hbusy)) rfl rfl).setPhase (u := pulseStart s) (p := .dispatch) rfl rfl
  | writeReg r v => exact hwrite _ ⟨h.slotsRest, h.lineDriven, h.slotLevel, h.lineHigh⟩
  | writeIe v => exact hwrite _ ⟨h.slotsRest, h.lineDriven, h.slotLevel, h.lineHigh⟩
  | writeBuf i v =>
    simp only [hostMove]
    split
    · exact hwrite _ ⟨h.slotsRest, h.lineDriven, h.slotLevel, h.lineHigh⟩
    · trivial
  | rst => exact hardReset_lineSound s

/-- Settles O53: outside the frames every step keeps or restores the line at rest; inside a frame each quarter leaves the
direction and the level that its slot asks for. -/
theorem lineKept : Obligations.LineKept := by
  intro s t hinv hstep
  replace hinv := popMove_inv hinv
  have hsound : (popMove s).lineSound := ⟨hinv.slotsRest, hinv.lineDriven, hinv.slotLevel, hinv.lineHigh⟩
  obtain ⟨hrest, hdriven, hlevel, hhigh⟩ := (hostMove_lineSound (nextMove s) hsound hinv.controlled).of_eq hstep
  exact ⟨hrest, hdriven, hlevel, hhigh⟩

end Sys2Proof.Machine

/-! PROOF. Leads and header (42_command_protocol.md R180 to R183): what each leaves, where it stands in a transaction, and that
nothing after the header sees how its slot 9 was answered. -/

namespace Sys2Proof.Machine

/-! ## Leads -/

/-- Every interval lasts its minimum at least (00_scope.md R12). -/
theorem minMicros_le_micros (i : Config.Interval) : Config.minMicros i ≤ Config.micros i := Nat.le_add_right _ _

/-- Settles O21: four micro-operations, one after the other. -/
theorem standbyPulse_spec : Obligations.StandbyPulse :=
  ⟨minMicros_le_micros .stby, minMicros_le_micros .setup, fun _ => rfl⟩

/-- The lead and `CS_ENTER` stand in a transaction's trace, the rest of it above them (43_device_operations.md R192). -/
theorem csEnter_trace_suffix (s : State) :
    (csEnter (leadIn (setOk true s))).trace <:+ (transaction s).trace :=
  (RunsOn.refl (csEnter (leadIn (setOk true s)))).then_startHeader.then_exchange.then_csExit.trace

theorem leadIn_gap {s : State} (h : s.desc.lead = .gap) : leadIn s = interCommandGap s := by
  rw [leadIn, h]

/-- Settles O22: two micro-operations; as the lead of a transaction they are followed by `CS_ENTER`. -/
theorem interCommandGap_spec : Obligations.InterCommandGap := by
  refine ⟨minMicros_le_micros .gap, fun s => ⟨rfl, fun hhigh => ?unmoved, fun hlead => ?inTransaction⟩⟩
  case unmoved =>
    show ({ s.line with lvl := true } : LineRegs) = s.line
    rw [← hhigh]
  case inTransaction =>
    have hsuffix := csEnter_trace_suffix s
    rw [leadIn_gap (s := setOk true s) hlead] at hsuffix
    exact hsuffix

/-! ## The header -/

theorem startHeader_traced (s : State) : traced s (startHeader s) headerShape := by
  have hhold : traced s (dly .hdr (lvlOp false s)) [.lvl false, .dly .hdr] := ⟨[.lvl false, .dly .hdr], rfl, rfl⟩
  exact hhold.trans (sendByte_traced _ _ _)

/-- Settles O23: the hold and one sent frame; in a transaction `CS_ENTER` comes before them. -/
theorem startHeader_spec : Obligations.StartHeader := by
  refine ⟨minMicros_le_micros .hdr, fun s => ⟨rfl, ?inTransaction, ?afterEnter⟩, fun s => ?frame⟩
  case inTransaction =>
    exact (RunsOn.refl (startHeader (csEnter (leadIn (setOk true s))))).then_exchange.then_csExit.trace
  case afterEnter =>
    exact (RunsOn.refl (dly .hdr (lvlOp false (csEnter (leadIn (setOk true s)))))).then_sendByte.trace
  case frame =>
    obtain ⟨hline, henv, hack, hmakb, hslot, hqtr, htmr, -⟩ :=
      sendByte_spec Config.startHeader true (dly .hdr (lvlOp false s))
    exact ⟨startHeader s, rfl, startHeader_traced s, length_shape_sent _ _,
      frame_eq_of_fields (sendByte_shr _ _ _) hslot hmakb hack, hline, hqtr, htmr, henv, startHeader_frames s⟩

/-! ## The trace does not steer the engine -/

/-- `s` with its trace on top of an older one. -/
def State.onto (s : State) (old : List MicroOp) : State := { s with trace := s.trace ++ old }

/-- What runs without reading the trace. -/
def TraceBlind (f : State → State) : Prop := ∀ (s : State) (old : List MicroOp), f (s.onto old) = (f s).onto old

theorem TraceBlind.comp {f g : State → State} (hf : TraceBlind f) (hg : TraceBlind g) : TraceBlind fun s => f (g s) :=
  fun s old => (congrArg f (hg s old)).trans (hf (g s) old)

theorem exchangeBit_traceBlind (w : Bool) : TraceBlind (exchangeBit w) := fun s old => by
  simp only [exchangeBit_eq]
  rfl

theorem sendSlot_traceBlind (k : Fin 10) : TraceBlind fun s => sendSlot s k := fun s old => by
  simp only [sendSlot_eq]
  rfl

theorem receiveSlot_traceBlind (k : Fin 10) : TraceBlind fun s => receiveSlot s k := fun s old => by
  have hslot := exchangeBit_traceBlind true (setSlot k s) old
  simp only [receiveSlot]
  rw [show setSlot k (s.onto old) = (setSlot k s).onto old from rfl, hslot]
  rfl

theorem makSlot_traceBlind : TraceBlind makSlot := fun s old => by
  simp only [makSlot_eq]
  rfl

theorem sakSlot_traceBlind : TraceBlind sakSlot := fun s old => by
  simp only [sakSlot_eq]
  rfl

theorem foldl_traceBlind {slot : State → Fin 10 → State} (hslot : ∀ k, TraceBlind fun s => slot s k) (ks : List (Fin 10)) :
    TraceBlind fun s => ks.foldl slot s := by
  induction ks with
  | nil => exact fun s old => rfl
  | cons k ks ih => exact ih.comp (hslot k)

theorem sendByte_traceBlind (v : Byte) (more : Bool) : TraceBlind (sendByte v more) := by
  have hload : TraceBlind fun s => setMakb more (setShr v s) := fun _ _ => rfl
  exact sakSlot_traceBlind.comp (makSlot_traceBlind.comp ((foldl_traceBlind sendSlot_traceBlind dataSlots).comp hload))

theorem storeReceived_traceBlind : TraceBlind storeReceived := fun s old => by
  have hdesc : (s.onto old).desc = s.desc := rfl
  unfold storeReceived
  rw [hdesc]
  split <;> rfl

theorem receiveByte_traceBlind (more : Bool) : TraceBlind (receiveByte more) := by
  have hload : TraceBlind fun s => dirOp .input (setMakb more s) := fun _ _ => rfl
  have hdrive : TraceBlind (dirOp .output) := fun _ _ => rfl
  have hdata := (foldl_traceBlind receiveSlot_traceBlind dataSlots).comp hload
  exact sakSlot_traceBlind.comp (makSlot_traceBlind.comp (storeReceived_traceBlind.comp (hdrive.comp hdata)))

/-- A test that does not read the trace either. -/
theorem TraceBlind.ite {f g : State → State} {test : State → Bool} (hf : TraceBlind f) (hg : TraceBlind g)
    (htest : ∀ s old, test (State.onto s old) = test s) : TraceBlind fun s => if test s then f s else g s := fun s old => by
  simp only [htest, hf s old, hg s old]
  split <;> rfl

theorem sendBuffer_traceBlind {data : State → Nat → Byte} (hdata : ∀ s old i, data (State.onto s old) i = data s i) (n : Nat)
    (terminate : Bool) (left : Nat) : TraceBlind (sendBuffer data n terminate left) := by
  induction left with
  | zero => exact fun _ _ => rfl
  | succ left ih =>
    have hframe : TraceBlind fun s =>
        sendByte (data (setByteidx (n - (left + 1)) s) (n - (left + 1))) (makSend (n - (left + 1)) n terminate)
          (setByteidx (n - (left + 1)) s) := by
      intro s old
      have hindex : setByteidx (n - (left + 1)) (s.onto old) = (setByteidx (n - (left + 1)) s).onto old := rfl
      simp only [hindex, hdata]
      exact sendByte_traceBlind _ _ _ _
    have hfail : TraceBlind (raise .ackFail) := fun _ _ => rfl
    exact (ih.ite (test := fun s => s.frame.ack) hfail fun _ _ => rfl).comp hframe

theorem receiveBuffer_traceBlind (n left : Nat) : TraceBlind (receiveBuffer n left) := by
  induction left with
  | zero => exact fun _ _ => rfl
  | succ left ih =>
    have hindex : TraceBlind (setByteidx (n - (left + 1))) := fun _ _ => rfl
    have hfail : TraceBlind (raise .ackFail) := fun _ _ => rfl
    exact (ih.ite (test := fun s => s.frame.ack) hfail fun _ _ => rfl).comp
      ((receiveByte_traceBlind (makReceive (n - (left + 1)) n)).comp hindex)

theorem payload_traceBlind : TraceBlind payload := fun s old => by
  have hdesc : (s.onto old).desc = s.desc := rfl
  unfold payload
  rw [hdesc]
  split
  · rfl
  · exact sendBuffer_traceBlind (fun _ _ _ => rfl) _ _ _ _ _
  · exact receiveBuffer_traceBlind _ _ _ _
  · exact receiveBuffer_traceBlind _ _ _ _

theorem exchange_traceBlind : TraceBlind exchange := fun s old => by
  have hcommand := sendBuffer_traceBlind (data := fun u i => cmdByte u.desc.cmd i) (fun _ _ _ => rfl) s.desc.cmdlen.toNat
    s.desc.cmdterm s.desc.cmdlen.toNat s old
  have hdesc : (s.onto old).desc = s.desc := rfl
  have hindex : TraceBlind (setByteidx 0) := fun _ _ => rfl
  simp only [exchange]
  rw [hdesc, hcommand]
  exact (payload_traceBlind.comp hindex).ite (test := fun t => t.seq.ok) (g := id) (fun _ _ => rfl) (fun _ _ => rfl) _ _

/-! ## What a frame does not see of the frame before it -/

/-- `s` with other samples and another acknowledgment left by the frame before. -/
def State.answered (s : State) (e : SlotRegs) (a : Bool) : State := setAck a { s with slotE := e }

theorem sendSlot_answered (s : State) (e : SlotRegs) (a : Bool) (k : Fin 10) :
    sendSlot (s.answered e a) k = setAck a (sendSlot s k) := by
  simp only [sendSlot_eq]
  rfl

theorem foldl_sendSlot_setAck (a : Bool) (ks : List (Fin 10)) (s : State) :
    ks.foldl sendSlot (setAck a s) = setAck a (ks.foldl sendSlot s) := by
  induction ks generalizing s with
  | nil => rfl
  | cons k ks ih =>
    rw [List.foldl_cons, List.foldl_cons, ← ih, ← sendSlot_answered s s.slotE a k]
    rfl

theorem foldl_sendSlot_answered (k : Fin 10) (ks : List (Fin 10)) (s : State) (e : SlotRegs) (a : Bool) :
    (k :: ks).foldl sendSlot (s.answered e a) = setAck a ((k :: ks).foldl sendSlot s) := by
  rw [List.foldl_cons, List.foldl_cons, sendSlot_answered, foldl_sendSlot_setAck]

/-- A frame writes both samples and `ACK` before it reads them (41_byte_framing.md R160). -/
theorem sendByte_answered (v : Byte) (more : Bool) (s : State) (e : SlotRegs) (a : Bool) :
    sendByte v more (s.answered e a) = sendByte v more s := by
  have hload : setMakb more (setShr v (s.answered e a)) = (setMakb more (setShr v s)).answered e a := rfl
  have hdata : dataSlots.foldl sendSlot ((setMakb more (setShr v s)).answered e a) =
      setAck a (dataSlots.foldl sendSlot (setMakb more (setShr v s))) := foldl_sendSlot_answered ..
  rw [sendByte, hload, hdata, sendByte]
  simp only [sakSlot_eq, makSlot_eq]
  rfl

/-- The frames of a command, of which there is one at least. -/
theorem exchange_answered {s : State} (hlen : s.desc.cmdlen ≠ 0) (e : SlotRegs) (a : Bool) :
    exchange (s.answered e a) = exchange s := by
  have hpos : s.desc.cmdlen.toNat ≠ 0 := fun h => hlen (BitVec.eq_of_toNat_eq h)
  obtain ⟨left, hleft⟩ := Nat.exists_eq_succ_of_ne_zero hpos
  have hdesc : (s.answered e a).desc = s.desc := rfl
  have hindex : ∀ i, setByteidx i (s.answered e a) = (setByteidx i s).answered e a := fun _ => rfl
  simp only [exchange, hdesc, hleft, sendBuffer, hindex, sendByte_answered]
  rfl

/-! ## The answers that the header uses up -/

/-- Environments with the same next `n` answers. -/
structure SameAnswers (n : Nat) (e f : Env) : Prop where
  drives : ∀ k < n, envDrive f k = envDrive e k
  samples : f.samples = e.samples

theorem SameAnswers.after {m n : Nat} {e f : Env} (h : SameAnswers (m + n) e f) : SameAnswers n (e.after m) (f.after m) where
  drives := fun k hk => by rw [envDrive_after, envDrive_after]; exact h.drives _ (by omega)
  samples := congrArg (· + m) h.samples

/-- `s` with another environment. -/
def State.withEnv (s : State) (f : Env) : State := { s with env := f }

theorem samples_withEnv {s : State} {f : Env} (h : SameAnswers 2 s.env f) (w : Bool) :
    firstSample w (s.withEnv f) = firstSample w s ∧ secondSample w (s.withEnv f) = secondSample w s := by
  simp only [firstSample, secondSample, State.withEnv, h.drives 0 (by decide), h.drives 1 (by decide), h.samples, and_self]

theorem sendSlot_withEnv {s : State} {f : Env} (h : SameAnswers 2 s.env f) (k : Fin 10) :
    sendSlot (s.withEnv f) k = (sendSlot s k).withEnv (f.after 2) := by
  obtain ⟨hfirst, hsecond⟩ := samples_withEnv h (topBit s)
  have htop : topBit (s.withEnv f) = topBit s := rfl
  simp only [sendSlot_eq, htop, hfirst, hsecond]
  rfl

theorem makSlot_withEnv {s : State} {f : Env} (h : SameAnswers 2 s.env f) :
    makSlot (s.withEnv f) = (makSlot s).withEnv (f.after 2) := by
  obtain ⟨hfirst, hsecond⟩ := samples_withEnv h s.frame.makb
  have hmakb : (s.withEnv f).frame = s.frame := rfl
  simp only [makSlot_eq, hmakb, hfirst, hsecond]
  rfl

theorem foldl_sendSlot_withEnv (ks : List (Fin 10)) {s : State} {f : Env} (h : SameAnswers (2 * ks.length) s.env f) :
    ks.foldl sendSlot (s.withEnv f) = (ks.foldl sendSlot s).withEnv (f.after (2 * ks.length)) := by
  induction ks generalizing s f with
  | nil => rw [List.length_nil, Nat.mul_zero, Env.after_zero]; rfl
  | cons k ks ih =>
    rw [List.length_cons, Nat.mul_succ, Nat.add_comm] at h ⊢
    have hfirst : SameAnswers 2 s.env f := ⟨fun k hk => h.drives k (by omega), h.samples⟩
    have henv : (sendSlot s k).env = s.env.after 2 := by rw [sendSlot_eq]
    rw [List.foldl_cons, List.foldl_cons, sendSlot_withEnv hfirst, ih (by rw [henv]; exact h.after), Env.after_after]

/-- `s` with another trace. -/
def State.withTrace (s : State) (τ : List MicroOp) : State := { s with trace := τ }

/-- Two answers of slot 9 tell in the samples, in `ACK` and in the trace, and nowhere else. -/
theorem sakSlot_withEnv {s : State} {f : Env} (h : f.after 2 = s.env.after 2) :
    ∃ e a τ, sakSlot (s.withEnv f) = ((sakSlot s).answered e a).withTrace τ := by
  refine ⟨(sakSlot (s.withEnv f)).slotE, (sakSlot (s.withEnv f)).frame.ack, (sakSlot (s.withEnv f)).trace, ?_⟩
  have henv : (s.withEnv f).env = f := rfl
  simp only [sakSlot_eq, henv, h]
  rfl

theorem sendByte_withEnv (v : Byte) (more : Bool) {s : State} {f : Env} (h : SameAnswers 18 s.env f)
    (hafter : f.after 20 = s.env.after 20) :
    ∃ e a τ, sendByte v more (s.withEnv f) = ((sendByte v more s).answered e a).withTrace τ := by
  have hload : setMakb more (setShr v (s.withEnv f)) = (setMakb more (setShr v s)).withEnv f := rfl
  have hdata : SameAnswers (2 * dataSlots.length) (setMakb more (setShr v s)).env f :=
    ⟨fun k hk => h.drives k (hk.trans (by decide)), h.samples⟩
  obtain ⟨henv, -, -, -⟩ := sendSlots_env (setMakb more (setShr v s)) dataSlots
  rw [sendByte, hload, foldl_sendSlot_withEnv dataSlots hdata, sendByte]
  generalize dataSlots.foldl sendSlot (setMakb more (setShr v s)) = u at henv ⊢
  have hmak : SameAnswers 2 u.env (f.after (2 * dataSlots.length)) := by
    rw [henv]
    exact h.after (m := 16)
  have hmakEnv : (makSlot u).env = s.env.after 18 := by
    rw [makSlot_eq, henv]
    exact Env.after_after _ 16 2
  rw [makSlot_withEnv hmak, Env.after_after]
  refine sakSlot_withEnv ?_
  rw [hmakEnv, Env.after_after, Env.after_after]
  exact hafter

/-- What comes after the header starts from the same registers, but for the samples of its slot 9, and from a trace of the
same shape (R183). -/
theorem startHeader_withEnv {s : State} {f : Env} (h : SameAnswers 18 s.env f) (hafter : f.after 20 = s.env.after 20) :
    ∃ e a τ, startHeader (s.withEnv f) = ((startHeader s).answered e a).withTrace τ ∧
      shapeOf τ = shapeOf (startHeader s).trace := by
  have hhold : dly .hdr (lvlOp false (s.withEnv f)) = (dly .hdr (lvlOp false s)).withEnv f := rfl
  obtain ⟨e, a, τ, heq⟩ := sendByte_withEnv Config.startHeader true (s := dly .hdr (lvlOp false s)) h hafter
  refine ⟨e, a, τ, heq, ?_⟩
  obtain ⟨ops, htrace, hshape⟩ := startHeader_traced s
  obtain ⟨ops', htrace', hshape'⟩ := startHeader_traced (s.withEnv f)
  have hτ : (startHeader (s.withEnv f)).trace = τ := congrArg State.trace heq
  rw [← hτ, htrace, htrace']
  simp only [shapeOf, List.map_append, List.map_reverse] at hshape hshape' ⊢
  rw [hshape, hshape']
  rfl

/-! ## The transaction -/

/-- Two states that agree but for the values of samples in the trace. -/
def SameButSamples (s t : State) : Prop := s.withTrace [] = t.withTrace [] ∧ shapeOf s.trace = shapeOf t.trace

theorem TraceBlind.sameButSamples {f : State → State} (hf : TraceBlind f) {s : State} {τ : List MicroOp}
    (h : shapeOf τ = shapeOf s.trace) : SameButSamples (f s) (f (s.withTrace τ)) := by
  have hs : f s = (f (s.withTrace [])).onto s.trace := hf (s.withTrace []) s.trace
  have ht : f (s.withTrace τ) = (f (s.withTrace [])).onto τ := hf (s.withTrace []) τ
  rw [hs, ht]
  refine ⟨rfl, ?_⟩
  simp only [State.onto, shapeOf, List.map_append] at h ⊢
  rw [h]

/-- The frames after the header, and the end of the critical section, go by the registers alone (R192). -/
theorem exchange_sameButSamples {s : State} (hlen : s.desc.cmdlen ≠ 0) (e : SlotRegs) (a : Bool) {τ : List MicroOp}
    (h : shapeOf τ = shapeOf s.trace) :
    SameButSamples (csExit (exchange s)) (csExit (exchange ((s.answered e a).withTrace τ))) := by
  have hswap : (s.answered e a).withTrace τ = (s.withTrace τ).answered e a := rfl
  have hexit : TraceBlind csExit := fun _ _ => rfl
  rw [hswap, exchange_answered (s := s.withTrace τ) hlen]
  exact (hexit.comp exchange_traceBlind).sameButSamples h

theorem leadIn_withEnv (s : State) (f : Env) :
    csEnter (leadIn (setOk true (s.withEnv f))) = (csEnter (leadIn (setOk true s))).withEnv f := by
  have hdesc : (setOk true (s.withEnv f)).desc = (setOk true s).desc := rfl
  unfold leadIn
  rw [hdesc]
  split <;> rfl

theorem transaction_withEnv {s : State} {f : Env} (hlen : s.desc.cmdlen ≠ 0) (h : SameAnswers 18 s.env f)
    (hafter : f.after 20 = s.env.after 20) : SameButSamples (transaction s) (transaction (s.withEnv f)) := by
  have hrun := leadIn_run (setOk true s)
  have henv : (leadIn (setOk true s)).env = s.env := by
    unfold leadIn
    split <;> rfl
  unfold transaction
  rw [leadIn_withEnv]
  have hdesc : (startHeader (csEnter (leadIn (setOk true s)))).desc = s.desc := (startHeader_frames _).desc.trans hrun.desc
  obtain ⟨e, a, τ, heq, hshape⟩ := startHeader_withEnv (s := csEnter (leadIn (setOk true s))) (f := f)
    (by rw [csEnter_env, henv]; exact h) (by rw [csEnter_env, henv]; exact hafter)
  rw [heq]
  exact exchange_sameButSamples (by rw [hdesc]; exact hlen) e a hshape

/-- The scripts of the two environments. -/
theorem sameAnswers_script (e : Env) {header rest : List Drive} (hlen : header.length = 18) (a b c d : Drive) :
    SameAnswers 18 { e with script := header ++ [a, b] ++ rest } { e with script := header ++ [c, d] ++ rest } := by
  refine ⟨fun k hk => ?_, rfl⟩
  simp only [envDrive, List.append_assoc, List.getElem?_append_left (hlen ▸ hk)]

theorem after_script (e : Env) {header rest : List Drive} (hlen : header.length = 18) (a b : Drive) :
    Env.after { e with script := header ++ [a, b] ++ rest } 20 =
      { e with script := rest, samples := e.samples + 20 } := by
  have hdrop : (header ++ [a, b] ++ rest).drop 20 = rest := List.drop_left' (by simp [hlen])
  simp only [Env.after, hdrop]

/-- Settles O24: the samples of the header's slot 9 reach the slot engine, `ACK` and the trace; the first command frame writes
the registers anew, and nothing reads the trace. -/
theorem headerAckIgnored : Obligations.HeaderAckIgnored := by
  intro s header rest a b c d hheader hlen
  exact transaction_withEnv (s := s.withEnv { s.env with script := header ++ [a, b] ++ rest })
    (f := { s.env with script := header ++ [c, d] ++ rest }) hlen (sameAnswers_script s.env hheader a b c d)
    ((after_script s.env hheader c d).trans (after_script s.env hheader a b).symm)

end Sys2Proof.Machine

/-! PROOF. The descriptor (43_device_operations.md R201; 20_memory.md R71, R77; 44_paged_write.md R229): an operation loads its
row as it is entered, its payload is checked before the first pulse, and no step of the transaction writes what the row
is made of. -/

namespace Sys2Proof.Machine

/-! ## A row once loaded -/

/-- The registers that a transaction goes by: its descriptor, what the row is made of, and the buffer's size. -/
def State.session (s : State) : DescRegs × OperandRegs × OrchRegs × CurOp × Nat :=
  (s.desc, s.opnd, s.orch, s.seq.curop, s.host.bufSize)

/-- A transaction that may go on the wire: the row of its operation, a write inside a page, a payload inside the buffer. -/
structure State.rowLoaded (s : State) : Prop where
  row : ∃ op, s.seq.curop = .op op ∧ s.desc = { descRow op s with lead := leadOf op }
  page : s.seq.curop = .op .startWrite → fitsPage s.orch.curAddr s.desc.plen.toNat = true
  fits : s.desc.pdir = .tx ∨ s.desc.pdir = .rxBuf → payloadFits s = true

/-- The clauses of the invariant on the descriptor and the byte counter. -/
structure State.descriptorSound (s : State) : Prop where
  descriptorLoaded : s.descriptorLoaded
  payloadAdmitted : s.payloadAdmitted
  countersInRange : s.countersInRange

/-- A row is made of the registers of the session. -/
theorem descRow_congr {s t : State} (h : t.session = s.session) (op : DevOp) : descRow op t = descRow op s := by
  simp only [State.session, Prod.mk.injEq] at h
  obtain ⟨hdesc, hopnd, horch, -, -⟩ := h
  cases op <;>
    simp only [descRow, descRead, descWrite, descWren, descWrdi, descRdsr, descWrsr, writeCount, hdesc, hopnd, horch]

theorem State.rowLoaded.congr {s t : State} (h : s.rowLoaded) (ht : t.session = s.session) : t.rowLoaded := by
  have hrow := descRow_congr ht
  simp only [State.session, Prod.mk.injEq] at ht
  obtain ⟨hdesc, hopnd, horch, hcurop, hsize⟩ := ht
  obtain ⟨op, hop, hloaded⟩ := h.row
  exact ⟨⟨op, hcurop.trans hop, by rw [hdesc, hrow]; exact hloaded⟩, by rw [hcurop, horch, hdesc]; exact h.page,
    by rw [payloadFits, hdesc, hsize]; exact h.fits⟩

/-- Entering an operation loads its row: loading it again would change nothing (log 27). -/
theorem enter_row (op : DevOp) (s : State) : (enter op s).desc = { descRow op (enter op s) with lead := leadOf op } := by
  cases op <;> rfl

theorem enter_read_rowLoaded {s : State} (h : payloadFits (enter .read s) = true) : (enter .read s).rowLoaded :=
  ⟨⟨.read, rfl, enter_row .read s⟩, nofun, fun _ => h⟩

/-- The operations without a payload in the buffer. -/
theorem enter_plain_rowLoaded {op : DevOp} (hread : op ≠ .read) (hwrite : op ≠ .startWrite) (s : State) :
    (enter op s).rowLoaded where
  row := ⟨op, rfl, enter_row op s⟩
  page := by
    rintro h
    cases h
    exact absurd rfl hwrite
  fits := by
    cases op with
    | read => exact absurd rfl hread
    | startWrite => exact absurd rfl hwrite
    | _ => rintro (h | h) <;> cases h

/-! ## The clauses by phase -/

/-- Where no transaction is under way the clauses say nothing. -/
theorem descriptorSound_of_unused {s : State} (h : descriptorInUse s.seq.phase = false) : s.descriptorSound where
  descriptorLoaded := by simp [State.descriptorLoaded, h]
  payloadAdmitted :=
    ⟨by simp [h], fun hp => by simp [hp, descriptorInUse] at h, fun hp => by simp [hp, descriptorInUse] at h⟩
  countersInRange :=
    ⟨fun hp => by simp [hp, descriptorInUse] at h, fun hp => by obtain hp | hp := hp <;> simp [hp, descriptorInUse] at h⟩

/-- Before its pre-check a write has its row loaded, and nothing more is asked (R236). -/
theorem descriptorSound_of_precheck {s : State} (hp : s.seq.phase = .precheck)
    (hrow : ∃ op, s.seq.curop = .op op ∧ s.desc = { descRow op s with lead := leadOf op }) : s.descriptorSound where
  descriptorLoaded := fun _ => hrow
  payloadAdmitted := ⟨fun _ hne => absurd hp hne, by simp [hp], by simp [hp]⟩
  countersInRange := by simp [State.countersInRange, hp]

/-- Outside the frames that count bytes. -/
theorem State.rowLoaded.descriptorSound {s : State} (h : s.rowLoaded)
    (hp : s.seq.phase ∉ [.cmdFrame, .txFrame, .rxFrame]) : s.descriptorSound where
  descriptorLoaded := fun _ => h.row
  payloadAdmitted :=
    ⟨fun _ _ => ⟨h.page, h.fits⟩, fun hphase => by simp [hphase] at hp, fun hphase => by simp [hphase] at hp⟩
  countersInRange :=
    ⟨fun hphase => by simp [hphase] at hp, fun hphase => by obtain hphase | hphase := hphase <;> simp [hphase] at hp⟩

/-- The sequencer goes on within the transaction, to a phase that counts no bytes. -/
theorem State.rowLoaded.setPhase {s u : State} {p : Phase} (h : s.rowLoaded) (hu : u.session = s.session)
    (hp : p ∉ [.cmdFrame, .txFrame, .rxFrame]) : (setPhase p u).descriptorSound :=
  State.rowLoaded.descriptorSound (h.congr (t := Machine.setPhase p u) hu) hp

/-- Past the pre-check a transaction under way is one that may go on the wire. -/
theorem State.descriptorSound.rowLoaded {s : State} {p : Phase} (h : s.descriptorSound) (hp : s.seq.phase = p)
    (huse : descriptorInUse p = true) (hpast : p ≠ .precheck) : s.rowLoaded := by
  subst hp
  obtain ⟨hadmitted, -, -⟩ := h.payloadAdmitted
  obtain ⟨hpage, hfits⟩ := hadmitted huse hpast
  exact ⟨h.descriptorLoaded huse, hpage, hfits⟩

theorem State.descriptorSound.congr {s t : State} (h : s.descriptorSound) (ht : t.session = s.session)
    (hseq : t.seq = s.seq) : t.descriptorSound := by
  have hrow := descRow_congr ht
  simp only [State.session, Prod.mk.injEq] at ht
  obtain ⟨hdesc, -, horch, -, hsize⟩ := ht
  obtain ⟨hloaded, hadmitted, hcounters⟩ := h
  exact ⟨by simpa only [State.descriptorLoaded, hseq, hdesc, hrow] using hloaded,
    by simpa only [State.payloadAdmitted, payloadFits, hseq, hdesc, horch, hsize] using hadmitted,
    by simpa only [State.countersInRange, hseq, hdesc] using hcounters⟩

theorem SameBesidesFrames.session {s t : State} (g : SameBesidesFrames s t) : t.session = s.session := by
  simp only [State.session, g.desc, g.opnd, g.orch, g.seq, g.host]

theorem SameBesidesRun.session {s t : State} (g : SameBesidesRun s t) : t.session = s.session := by
  simp only [State.session, g.desc, g.opnd, g.orch, g.curop, g.bufSize]

/-! ## The phases outside the frames -/

theorem fsmDispatch_descriptorSound (s : State) : OnNext State.descriptorSound (fsmDispatch s) := by
  have hplain : ∀ op : DevOp, op ≠ .read → op ≠ .startWrite →
      (setPhase .stbyLow (enter op (setOk true s))).descriptorSound :=
    fun op hread hwrite => (enter_plain_rowLoaded hread hwrite _).setPhase rfl (by decide)
  simp only [fsmDispatch]
  split
  · exact descriptorSound_of_unused rfl
  · split
    · exact descriptorSound_of_unused rfl
    · split
      · exact descriptorSound_of_unused rfl
      · split
        next hfits => exact (enter_read_rowLoaded hfits).setPhase rfl (by decide)
        next => trivial
      · exact descriptorSound_of_precheck rfl ⟨.startWrite, rfl, enter_row .startWrite _⟩
      · exact hplain .enableWrite (by decide) (by decide)
      · exact hplain .disableWrite (by decide) (by decide)
      · exact hplain .readStatus (by decide) (by decide)
      · exact hplain .writeStatus (by decide) (by decide)
      · exact hplain .await (by decide) (by decide)
      · split
        · exact descriptorSound_of_unused rfl
        · trivial

/-- The pre-check passes a write that lies in a page and in the buffer (20_memory.md R77, R71). -/
theorem fsmPrecheck_descriptorSound {s : State} (h : s.descriptorSound) (hp : s.seq.phase = .precheck) :
    OnNext State.descriptorSound (fsmPrecheck s) := by
  have hrow := h.descriptorLoaded (by rw [hp]; rfl)
  unfold fsmPrecheck
  split
  next hpage =>
    split
    next hfits =>
      have hloaded : s.rowLoaded := ⟨hrow, fun _ => hpage, fun _ => hfits⟩
      exact hloaded.setPhase rfl (by decide)
    next => trivial
  next => exact descriptorSound_of_unused rfl

theorem fsmCsExit_descriptorSound {s : State} (h : s.rowLoaded) : (fsmCsExit s).descriptorSound := by
  simp only [fsmCsExit]
  split
  · exact descriptorSound_of_unused rfl
  · split
    · exact h.setPhase rfl (by decide)
    · split
      · exact descriptorSound_of_precheck rfl ⟨.startWrite, rfl, enter_row .startWrite _⟩
      · split
        · exact (enter_plain_rowLoaded (op := .await) (by decide) (by decide) _).setPhase rfl (by decide)
        · exact descriptorSound_of_unused rfl

theorem fsmPollTest_descriptorSound {s : State} (h : s.rowLoaded) : (fsmPollTest s).descriptorSound := by
  unfold fsmPollTest
  split
  · exact h.setPhase rfl (by decide)
  · split
    · exact descriptorSound_of_unused rfl
    · exact descriptorSound_of_unused rfl

theorem fsmChunkCalc_descriptorSound (s : State) : (fsmChunkCalc s).descriptorSound := by
  unfold fsmChunkCalc
  split
  · exact descriptorSound_of_unused rfl
  · exact (enter_plain_rowLoaded (op := .enableWrite) (by decide) (by decide) _).setPhase rfl (by decide)

/-- One phase outside the frames. -/
theorem fsmStep_phase_descriptorSound {s : State} (h : s.descriptorSound) (hframe : isFramePhase s.seq.phase = false) :
    OnNext State.descriptorSound (fsmStep s) := by
  unfold fsmStep
  cases hp : s.seq.phase with
  | idle => exact h
  | dispatch => exact fsmDispatch_descriptorSound s
  | precheck => exact fsmPrecheck_descriptorSound h hp
  | stbyLow => exact (h.rowLoaded hp rfl (by decide)).setPhase rfl (by decide)
  | stbyHigh => exact (h.rowLoaded hp rfl (by decide)).setPhase rfl (by split <;> decide)
  | gap => exact (h.rowLoaded hp rfl (by decide)).setPhase rfl (by decide)
  | csEnter => exact (h.rowLoaded hp rfl (by decide)).setPhase rfl (by decide)
  | hdrHold => exact (h.rowLoaded hp rfl (by decide)).setPhase rfl (by decide)
  | hdrFrame | cmdFrame | txFrame | rxFrame => simp [hp, isFramePhase] at hframe
  | csExit => exact fsmCsExit_descriptorSound (h.rowLoaded hp rfl (by decide))
  | pollTest => exact fsmPollTest_descriptorSound (h.rowLoaded hp rfl (by decide))
  | chunkCalc => exact fsmChunkCalc_descriptorSound s
  | chunkAdv => exact descriptorSound_of_unused rfl
  | initDo => exact descriptorSound_of_unused rfl
  | finish => exact descriptorSound_of_unused rfl

/-! ## The frames -/

/-- Every row has command bytes (30_encoding.md R107). -/
theorem State.rowLoaded.cmdlen_pos {s : State} (h : s.rowLoaded) : 0 < s.desc.cmdlen.toNat := by
  obtain ⟨op, -, hdesc⟩ := h.row
  rw [hdesc]
  cases op with
  | read | startWrite => exact (by decide : 0 < (4 : BitVec 3).toNat)
  | writeStatus => exact (by decide : 0 < (3 : BitVec 3).toNat)
  | enableWrite | disableWrite | readStatus | await => exact (by decide : 0 < (2 : BitVec 3).toNat)

/-- The next frame of a run is counted inside it, where it is a payload frame of the descriptor's direction. -/
theorem State.rowLoaded.nextFrame {s : State} {p : Phase} {i : Nat} (h : s.rowLoaded)
    (hcmd : p = .cmdFrame → i < s.desc.cmdlen.toNat) (hplen : p = .txFrame ∨ p = .rxFrame → i < s.desc.plen.toNat)
    (htx : p = .txFrame → s.desc.pdir = .tx) (hrx : p = .rxFrame → s.desc.pdir = .rxBuf ∨ s.desc.pdir = .rxStatus) :
    (nextFrame p i s).descriptorSound := by
  have hnext : (Machine.nextFrame p i s).rowLoaded := h.congr rfl
  have hindex : (Machine.nextFrame p i s).seq.byteidx.toNat ≤ i := Nat.mod_le _ _
  exact ⟨fun _ => hnext.row, ⟨fun _ _ => ⟨hnext.page, hnext.fits⟩, htx, hrx⟩,
    fun hp => hindex.trans_lt (hcmd hp), fun hp => hindex.trans_lt (hplen hp)⟩

theorem commandFrameEnd_descriptorSound {s : State} (h : s.rowLoaded) : (commandFrameEnd s).descriptorSound := by
  unfold commandFrameEnd
  split
  · exact h.setPhase rfl (by decide)
  · split
    next hmore => exact h.nextFrame (fun _ => hmore) (by simp) nofun nofun
    next =>
      split
      next => exact h.setPhase rfl (by decide)
      next hplen =>
        have hpos : 0 < s.desc.plen.toNat := Nat.pos_of_ne_zero fun hzero => hplen (BitVec.eq_of_toNat_eq hzero)
        split
        next hdir => exact h.nextFrame nofun (fun _ => hpos) (fun _ => hdir) nofun
        next hdir => exact h.nextFrame nofun (fun _ => hpos) nofun fun _ => .inl hdir
        next hdir => exact h.nextFrame nofun (fun _ => hpos) nofun fun _ => .inr hdir
        next => exact h.setPhase rfl (by decide)

theorem payloadFrameEnd_descriptorSound {s : State} {p : Phase} (h : s.rowLoaded) (hp : p ≠ .cmdFrame)
    (htx : p = .txFrame → s.desc.pdir = .tx) (hrx : p = .rxFrame → s.desc.pdir = .rxBuf ∨ s.desc.pdir = .rxStatus) :
    (payloadFrameEnd p s).descriptorSound := by
  unfold payloadFrameEnd
  split
  · exact h.setPhase rfl (by decide)
  · split
    next hmore => exact h.nextFrame (absurd · hp) (fun _ => hmore) htx hrx
    next => exact h.setPhase rfl (by decide)

/-- The transaction stands in every frame. -/
theorem State.descriptorSound.rowLoaded_of_frame {s : State} (h : s.descriptorSound)
    (hframe : isFramePhase s.seq.phase = true) : s.rowLoaded := by
  refine h.rowLoaded rfl ?_ ?_
  all_goals
    revert hframe
    cases s.seq.phase <;> decide

theorem frameEnd_descriptorSound {s : State} (h : s.descriptorSound) (hframe : isFramePhase s.seq.phase = true) :
    (frameEnd s).descriptorSound := by
  have hloaded := h.rowLoaded_of_frame hframe
  obtain ⟨-, htx, hrx⟩ := h.payloadAdmitted
  unfold frameEnd
  cases hp : s.seq.phase with
  | hdrFrame => exact hloaded.nextFrame (fun _ => hloaded.cmdlen_pos) (by simp) nofun nofun
  | cmdFrame => exact commandFrameEnd_descriptorSound hloaded
  | txFrame => exact payloadFrameEnd_descriptorSound hloaded (by decide) (fun _ => htx hp) nofun
  | rxFrame => exact payloadFrameEnd_descriptorSound hloaded (by decide) nofun fun _ => hrx hp
  | _ => simp [hp, isFramePhase] at hframe

theorem storeReceived_session (s : State) : (storeReceived s).session = s.session := by
  simp only [State.session, storeReceived_desc, storeReceived_opnd, storeReceived_orch, storeReceived_seq,
    storeReceived_host_bufSize]

theorem FrameMove.descriptorSound {s t : State} (g : FrameMove s t) (h : s.descriptorSound)
    (hframe : isFramePhase s.seq.phase = true) : t.descriptorSound := by
  cases g with
  | stays g => exact h.congr g.session g.seq
  | ends u g ht =>
    subst ht
    exact frameEnd_descriptorSound (h.congr g.session g.seq) (by rw [g.seq]; exact hframe)
  | stores u g hrx ht =>
    refine h.congr (ht.session.trans ((storeReceived_session u).trans g.session)) ?_
    rw [ht.seq, storeReceived_seq, g.seq]

/-! ## A whole wire command -/

/-- The wire command that a device operation's row spells (30_encoding.md R107, R108). -/
def DevOp.command (op : DevOp) (s : State) : Instr :=
  match op with
  | .read => .wireRead s.opnd.devaddr (hiByte s.orch.curAddr) (loByte s.orch.curAddr)
  | .startWrite => .wireWrite s.opnd.devaddr (hiByte s.orch.curAddr) (loByte s.orch.curAddr)
  | .enableWrite => .wireWren s.opnd.devaddr
  | .disableWrite => .wireWrdi s.opnd.devaddr
  | .readStatus | .await => .wireRdsr s.opnd.devaddr
  | .writeStatus => .wireWrsr s.opnd.devaddr s.opnd.statusW

theorem fetchWire_congr {s t : State} (h : t.desc = s.desc) : fetchWire t = fetchWire s := by
  simp only [fetchWire, h]

/-- The command buffer of a loaded row holds its operation's wire command. -/
theorem fetchWire_loaded {s : State} {op : DevOp} (h : s.desc = { descRow op s with lead := leadOf op }) :
    fetchWire s = some (op.command s) := by
  have henter : fetchWire (enter op s) = some (op.command s) := by
    cases op <;> rfl
  exact (fetchWire_congr (t := s) (s := enter op s) h).trans henter

/-- As an instruction it loads the row again, which changes nothing, and sends it (log 17). -/
theorem exec_command_loaded {s : State} {op : DevOp} (h : s.desc = { descRow op s with lead := leadOf op }) :
    OnNext (fun t => t = sendCommand s.desc s) (exec (op.command s) s) := by
  have hbuffered : ∀ d, d = s.desc → OnNext (fun t => t = sendCommand s.desc s) (sendBufferedCommand d s) := by
    rintro d rfl
    unfold sendBufferedCommand
    split
    · rfl
    · trivial
  have hplain : ∀ d, d = s.desc → OnNext (fun t => t = sendCommand s.desc s) (.next (sendCommand d s)) := by
    rintro d rfl
    rfl
  have hrow : ∀ d, { d with lead := leadOf op } = { descRow op s with lead := leadOf op } → d.lead = leadOf op →
      d = s.desc := by
    intro d hd hlead
    rw [h, ← hd, ← hlead]
  have hlead : s.desc.lead = leadOf op := by rw [h]
  cases op with
  | read | startWrite => exact hbuffered _ (hrow _ rfl hlead)
  | enableWrite | disableWrite | readStatus | await | writeStatus => exact hplain _ (hrow _ rfl hlead)

theorem sendCommand_session (s : State) : (sendCommand s.desc s).session = s.session := by
  have hrun : SameBesidesRun (setOk true (setDesc s.desc s)) (sendCommand s.desc s) := exchange_run _
  exact hrun.session

/-- The command that the sequencer fetches sends the row that is loaded, so the transaction stands after it. -/
theorem exec_fetched_descriptorSound {s : State} {i : Instr} (h : s.rowLoaded) (hi : fetchWire s = some i) :
    OnNext (fun t => (setPhase .csExit t).descriptorSound) (exec i s) := by
  obtain ⟨op, -, hdesc⟩ := h.row
  obtain rfl : op.command s = i := Option.some.inj ((fetchWire_loaded hdesc).symm.trans hi)
  refine (exec_command_loaded hdesc).imp ?_
  rintro t rfl
  exact h.setPhase (sendCommand_session s) (by decide)

/-! ## Requests -/

theorem transaction_session (s : State) : (transaction s).session = s.session := by
  obtain ⟨-, -, hdesc, hopnd, horch, -, -, -, hcurop, -, -, -, hsize⟩ := transaction_run s
  simp only [State.session, hdesc, hopnd, horch, hcurop, hsize]

theorem pollLoop_session (fuel : Nat) (s : State) : (pollLoop fuel s).session = s.session := by
  induction fuel generalizing s with
  | zero => rfl
  | succ fuel ih =>
    simp only [pollLoop]
    split
    · exact (ih _).trans (transaction_session s)
    · exact transaction_session s

/-- Between two polls the row of the poll is loaded. -/
theorem runPolls_rowLoaded (s : State) : (runPolls s).rowLoaded := by
  have henter := enter_plain_rowLoaded (op := .await) (by decide) (by decide) s
  exact henter.congr (pollLoop_session _ (awaitOpen s))

theorem suspend_descriptorSound {s : State} (h : s.rowLoaded) : (suspend s).descriptorSound := h.setPhase rfl (by decide)

theorem complete_descriptorSound (s : State) : (complete s).descriptorSound := descriptorSound_of_unused rfl

/-- A chunk that has not failed has come to its polls. -/
theorem runChunk_rowLoaded {s : State} (hok : (runChunk s).seq.ok = true) : (runChunk s).rowLoaded := by
  revert hok
  simp only [runChunk]
  split
  next =>
    split
    next =>
      split
      next => exact fun _ => runPolls_rowLoaded _
      next hfail => exact fun hok => absurd hok hfail
    next => exact nofun
  next hfail => exact fun hok => absurd hok hfail

theorem chunkLoop_descriptorSound (fuel : Nat) (s : State) : (chunkLoop fuel s).descriptorSound := by
  induction fuel generalizing s with
  | zero => exact complete_descriptorSound s
  | succ fuel ih =>
    simp only [chunkLoop]
    split
    · exact complete_descriptorSound s
    · split
      next => exact complete_descriptorSound _
      next hok =>
        split
        next => exact suspend_descriptorSound (runChunk_rowLoaded (by simpa using hok))
        next => exact ih _

theorem runAwait_descriptorSound (s : State) : OnNext State.descriptorSound (runAwait s) := by
  show (if stillPolling (runPolls s) then suspend (runPolls s) else complete (runPolls s)).descriptorSound
  split
  · exact suspend_descriptorSound (runPolls_rowLoaded s)
  · exact complete_descriptorSound _

theorem runSimpleWrite_descriptorSound (s : State) : OnNext State.descriptorSound (runSimpleWrite s) := by
  simp only [runSimpleWrite]
  split
  · exact chunkLoop_descriptorSound _ _
  · trivial

theorem runRead_descriptorSound (s : State) : OnNext State.descriptorSound (runRead s) := by
  simp only [runRead]
  split
  · exact complete_descriptorSound _
  · trivial

theorem runStartWrite_descriptorSound (s : State) : OnNext State.descriptorSound (runStartWrite s) := by
  simp only [runStartWrite]
  split
  · split
    · exact complete_descriptorSound _
    · trivial
  · exact complete_descriptorSound _

theorem exec_request_descriptorSound {i : Instr} (hi : i.isRequest = true) {s : State} (h : s.descriptorSound) :
    OnNext State.descriptorSound (exec i s) := by
  have hrequest : ∀ {operation : State → Host.Outcome State Fault Refusal},
      (∀ u, OnNext State.descriptorSound (operation u)) → ∀ j, OnNext State.descriptorSound (hostRequest j operation s) :=
    fun hop j => hostRequest_onNext h (fun _ => hop _) (complete_descriptorSound _)
  have hplain : ∀ op u, OnNext State.descriptorSound (runPlain op u) := fun op u => complete_descriptorSound _
  have hreserved : ∀ j, OnNext State.descriptorSound (reservedRequest j s) := by
    intro j
    unfold reservedRequest
    split
    · exact h
    · exact complete_descriptorSound _
  have hinit : OnNext State.descriptorSound (execInit s) := by
    unfold execInit
    split
    · exact h
    · exact complete_descriptorSound _
  cases i with
  | init => exact hinit
  | read dev offset length => exact hrequest runRead_descriptorSound _
  | startWrite dev offset length => exact hrequest runStartWrite_descriptorSound _
  | enableWrite dev => exact hrequest (hplain .enableWrite) _
  | disableWrite dev => exact hrequest (hplain .disableWrite) _
  | readStatus dev => exact hrequest (hplain .readStatus) _
  | writeStatus dev status => exact hrequest (hplain .writeStatus) _
  | awaitWriteComplete dev => exact hrequest runAwait_descriptorSound _
  | simpleWrite dev offset length => exact hrequest runSimpleWrite_descriptorSound _
  | reserved9 | reserved10 | reserved11 | reserved12 | reserved13 | reserved14 | reserved15 => exact hreserved _
  | _ => cases hi

/-! ## The step -/

section
variable {s : State} (h : s.descriptorSound)
include h

theorem fsmStep_descriptorSound : OnNext State.descriptorSound (fsmStep s) := by
  by_cases hframe : isFramePhase s.seq.phase = true
  · rw [fsmStep_frame hframe]
    exact (frameQuarter_move s).imp fun t ht => ht.descriptorSound h hframe
  · exact fsmStep_phase_descriptorSound h (by simpa using hframe)

theorem slotStep_descriptorSound (hframe : isFramePhase s.seq.phase = true) :
    OnNext State.descriptorSound (slotStep s) :=
  (slotStep_move s).imp fun _ ht => ht.descriptorSound h hframe

theorem engineStep_descriptorSound : OnNext State.descriptorSound (engineStep s) := by
  unfold engineStep
  split
  next hp =>
    have hheader : (startHeader s).rowLoaded :=
      (h.rowLoaded hp rfl (by decide)).congr (startHeader_frames s).session
    exact hheader.nextFrame (fun _ => hheader.cmdlen_pos) (by simp) nofun nofun
  next hp =>
    have hframe : isFramePhase s.seq.phase = true := by rw [hp]; rfl
    split
    · split
      next i hi =>
        exact (exec_fetched_descriptorSound (h.rowLoaded_of_frame hframe) hi).andThen fun _ ht => ht
      next => exact slotStep_descriptorSound h hframe
    · exact slotStep_descriptorSound h hframe
  next hp => exact slotStep_descriptorSound h (by rw [hp]; rfl)
  next hp => exact slotStep_descriptorSound h (by rw [hp]; rfl)
  next hp => exact slotStep_descriptorSound h (by rw [hp]; rfl)
  next => exact fsmStep_descriptorSound h

/-- Every move of the host keeps the clauses; the operand registers are the host's only while no transaction is under way. -/
theorem hostMove_descriptorSound (m : HostMove) (hcontrolled : s.controlled) :
    OnNext State.descriptorSound (hostMove m s) := by
  have hidle : s.res.busy = false → descriptorInUse s.seq.phase = false := by
    intro hbusy
    obtain ⟨-, hidle⟩ | hrun := hcontrolled.idle_or_underWay
    · rw [hidle]
      rfl
    · exact absurd hrun.busy (by simp [hbusy])
  cases m with
  | wait => exact engineStep_descriptorSound h
  | tick => exact fsmStep_descriptorSound h
  | start =>
    simp only [hostMove, hostStart]
    split
    · exact h
    · split
      next i hi => exact exec_request_descriptorSound (fetchRequest_isRequest hi) h
      next => trivial
  | startPulse =>
    simp only [hostMove, hostStartPulse]
    split
    · exact h
    · exact descriptorSound_of_unused rfl
  | writeReg r v => exact hostWrite_onNext fun hbusy => descriptorSound_of_unused (hidle hbusy)
  | writeIe v => exact hostWrite_onNext fun hbusy => descriptorSound_of_unused (hidle hbusy)
  | writeBuf i v =>
    simp only [hostMove]
    split
    · exact hostWrite_onNext fun hbusy => descriptorSound_of_unused (hidle hbusy)
    · trivial
  | rst => exact descriptorSound_of_unused rfl

end

/-- Settles O55: a row stands from the entering of its operation on, as no step of its transaction writes the registers it is
made of; the pre-check and the dispatch let a payload pass, and each frame's end counts the next one. -/
theorem descriptorKept : Obligations.DescriptorKept := by
  intro s t hinv hstep
  replace hinv := popMove_inv hinv
  have hsound : (popMove s).descriptorSound := ⟨hinv.descriptorLoaded, hinv.payloadAdmitted, hinv.countersInRange⟩
  obtain ⟨hloaded, hadmitted, hcounters⟩ :=
    (hostMove_descriptorSound hsound (nextMove s) hinv.controlled).of_eq hstep
  exact ⟨hloaded, hadmitted, hcounters⟩

end Sys2Proof.Machine

/-! PROOF. The host operations of one transaction (43_device_operations.md R192 to R202): what a transaction leaves, up to its
first command frame and whole, and each operation as the transaction of its row. -/

namespace Sys2Proof.Machine

/-! ## A transaction up to its first command frame -/

/-- The lead on the line (42_command_protocol.md R184). -/
def leadShape : Lead → List MicroOp
  | .standby => standbyShape
  | .gap => gapShape

/-- Lead, `CS_ENTER` and header (43_device_operations.md R192). -/
def openSession (s : State) : State := startHeader (csEnter (leadIn (setOk true s)))

theorem leadIn_frames (s : State) : SameBesidesFrames s (leadIn s) := by
  unfold leadIn
  split <;> exact .of_eq rfl

theorem leadIn_env (s : State) : (leadIn s).env = s.env := by
  unfold leadIn
  split <;> rfl

theorem leadIn_traced (s : State) : traced s (leadIn s) (leadShape s.desc.lead) := by
  unfold leadIn
  split
  next h => rw [h]; exact ⟨standbyShape, rfl, rfl⟩
  next h => rw [h]; exact ⟨gapShape, rfl, rfl⟩

theorem csEnter_traced (s : State) : traced s (csEnter s) [.csEnter] := ⟨[.csEnter], rfl, rfl⟩

theorem csExit_traced (s : State) : traced s (csExit s) [.csExit s.savedIe] := ⟨[.csExit s.savedIe], rfl, rfl⟩

/-- `u` is `s` with a transaction begun: lead, `CS_ENTER` and header are on the line, `OK` is 1, preemption is masked. -/
structure SessionOpen (s u : State) : Prop where
  trace : traced s u (leadShape s.desc.lead ++ [.csEnter] ++ headerShape)
  env : u.env = s.env.after (20 * 1)
  ok : u.seq.ok = true
  desc : u.desc = s.desc
  opnd : u.opnd = s.opnd
  orch : u.orch = s.orch
  curop : u.seq.curop = s.seq.curop
  inited : u.inited = s.inited
  res : u.res = s.res
  host : u.host = { s.host with ie := false }
  savedIe : u.savedIe = s.host.ie

theorem openSession_open (s : State) : SessionOpen s (openSession s) := by
  have hlead := leadIn_frames (setOk true s)
  have hleadTrace : traced s (leadIn (setOk true s)) (leadShape s.desc.lead) := (leadIn_traced (setOk true s)).congr rfl rfl
  have hheader := startHeader_frames (csEnter (leadIn (setOk true s)))
  have hframe := sendByte_done Config.startHeader true (dly .hdr (lvlOp false (csEnter (leadIn (setOk true s)))))
  rw [openSession]
  refine ⟨(hleadTrace.trans (csEnter_traced _)).trans (startHeader_traced _),
    hframe.env.trans (congrArg (Env.after · 20) (leadIn_env (setOk true s))), ?ok, hheader.desc.trans hlead.desc,
    hheader.opnd.trans hlead.opnd, hheader.orch.trans hlead.orch, ?curop, hheader.inited.trans hlead.inited,
    hheader.res.trans hlead.res, ?host, ?savedIe⟩
  case ok =>
    rw [hheader.seq, csEnter_seq, hlead.seq]
    rfl
  case curop =>
    rw [hheader.seq, csEnter_seq, hlead.seq]
    rfl
  case host =>
    rw [hheader.host, csEnter_host, hlead.host]
    rfl
  case savedIe =>
    rw [hheader.savedIe, csEnter_savedIe, hlead.host]
    rfl

/-! ## A whole transaction -/

/-- What a transaction leaves (43_device_operations.md R192): its session on the line up to the first command or payload frame
without acknowledgment, the outcome in `OK`, the line driven high. -/
structure TransactionDone (frames : List BusFrame) (s t : State) : Prop where
  ok : t.seq.ok = allAcked s 1 frames.length
  trace : traced s t (sessionShape (leadShape s.desc.lead) s.host.ie (frames.take (framesRun s 1 frames.length)))
  env : t.env = s.env.after (20 * (1 + framesRun s 1 frames.length))
  line : t.line = { dir := .output, lvl := true }
  slotsRest : t.slotE.qtr = 0 ∧ t.slotE.tmr = 0
  lastFrame : t.frame.slot = 9 ∧ t.frame.ack = ackAt s (20 * framesRun s 1 frames.length)
  savedIe : t.savedIe = s.host.ie

section
variable {s u : State} (h : SessionOpen s u)
include h

theorem SessionOpen.done {frames : List BusFrame}
    (hframes : commandFrames s.desc ++ payloadFrames s.desc s.host.buf = frames) (hne : frames ≠ []) :
    TransactionDone frames s (csExit (exchange u)) := by
  have hsaved := (exchange_run u).savedIe.trans h.savedIe
  have hdone := exchange_done h.ok
  rw [h.desc, h.host, hframes] at hdone
  generalize exchange u = v at hsaved hdone ⊢
  have hcount : framesRun u 0 frames.length = framesRun s 1 frames.length := framesRun_after h.env 0 _
  have hpos : 0 < framesRun s 1 frames.length := framesRun_pos s 1 (mt List.length_eq_zero_iff.1 hne)
  obtain ⟨hline, hrest, hslot, hack⟩ := hdone.atRest hne
  have htrace := (h.trace.trans hdone.trace).trans (csExit_traced v)
  rw [hcount, hsaved] at htrace
  refine ⟨?ok, htrace, ?env, hline, hrest, ⟨hslot, ?ack⟩, hsaved⟩
  case ok =>
    rw [csExit_seq, hdone.ok, h.ok, Bool.true_and]
    exact allAcked_after h.env 0 _
  case env => rw [csExit_env, hdone.env, h.env, Env.after_after, hcount, Nat.mul_add]
  case ack =>
    have hlast : 20 * 1 + 20 * (framesRun s 1 frames.length - 1) = 20 * framesRun s 1 frames.length := by omega
    rw [csExit_frame, hack, hcount, ackAt_after h.env, hlast]

/-- The host's side after the critical section: `IE` is what it was (60_exceptions.md R266). -/
theorem SessionOpen.host_after (hkept : (exchange u).host = u.host) : (csExit (exchange u)).host = s.host := by
  rw [csExit_host, hkept, h.host, (exchange_run u).savedIe, h.savedIe]

/-- A transaction without received bytes leaves the results and the host's side alone. -/
theorem SessionOpen.keeps (hdir : s.desc.pdir = .none ∨ s.desc.pdir = .tx) :
    (csExit (exchange u)).res = s.res ∧ (csExit (exchange u)).host = s.host := by
  obtain ⟨hres, hhost⟩ := exchange_keeps h.ok (by rw [h.desc]; exact hdir)
  rw [csExit_res, hres]
  exact ⟨h.res, h.host_after hhost⟩

/-- A transaction that receives one status byte keeps it whether or not its frame is acknowledged (R209, 41_byte_framing.md
R169). -/
theorem SessionOpen.status (hdir : s.desc.pdir = .rxStatus) (hlen : s.desc.plen = 1) :
    (csExit (exchange u)).host = s.host ∧
    (csExit (exchange u)).res.statusR =
      if allAcked s 1 s.desc.cmdlen.toNat then byteAt s (20 * (1 + s.desc.cmdlen.toNat)) else s.res.statusR := by
  obtain ⟨hhost, hstatus⟩ := exchange_status h.ok (by rw [h.desc]; exact hdir) (by rw [h.desc]; exact hlen)
  rw [csExit_res, hstatus, h.desc, h.res, allAcked_after h.env, byteAt_after h.env, ← Nat.mul_add]
  exact ⟨h.host_after hhost, rfl⟩

/-- A transaction that receives into the buffer stores the receptions that ran. -/
theorem SessionOpen.buffer (hdir : s.desc.pdir = .rxBuf) :
    (csExit (exchange u)).res = s.res ∧
    (s.host.buf.wf = true → ∀ a, memRead (csExit (exchange u)).host.buf a =
      if s.desc.pbase.toNat ≤ a ∧
        s.desc.cmdlen.toNat + (a - s.desc.pbase.toNat) < framesRun s 1 (s.desc.cmdlen.toNat + s.desc.plen.toNat) then
        byteAt s (20 * (1 + (s.desc.cmdlen.toNat + (a - s.desc.pbase.toNat))))
      else memRead s.host.buf a) := by
  obtain ⟨hres, hbytes⟩ := exchange_buffer h.ok (by rw [h.desc]; exact hdir)
  rw [csExit_res, hres]
  refine ⟨h.res, fun hwf a => ?_⟩
  rw [csExit_host, hbytes (by rw [h.host]; exact hwf), h.desc, h.host, framesRun_after h.env, byteAt_after h.env,
    ← Nat.mul_add]

end

theorem transaction_eq (s : State) : transaction s = csExit (exchange (openSession s)) := rfl

theorem transaction_done {s : State} {frames : List BusFrame}
    (hframes : commandFrames s.desc ++ payloadFrames s.desc s.host.buf = frames) (hne : frames ≠ []) :
    TransactionDone frames s (transaction s) := by
  rw [transaction_eq]
  exact (openSession_open s).done hframes hne

/-! ## An operation of one transaction -/

/-- `u` is `s` with the operation `op` entered: nothing on the line yet, the host's side as it was. -/
structure Entered (op : DevOp) (s u : State) : Prop where
  curop : u.seq.curop = .op op
  lead : u.desc.lead = .standby
  trace : u.trace = s.trace
  env : u.env = s.env
  inited : u.inited = s.inited
  host : u.host = s.host
  statusR : u.res.statusR = s.res.statusR

theorem allAcked_congr {s t : State} (h : t.env = s.env) (first n : Nat) : allAcked t first n = allAcked s first n := by
  simp only [allAcked, ackAt, driveAt, h]

theorem ackAt_congr {s t : State} (h : t.env = s.env) (k : Nat) : ackAt t k = ackAt s k := by
  simp only [ackAt, driveAt, h]

theorem byteAt_congr {s t : State} (h : t.env = s.env) (k : Nat) : byteAt t k = byteAt s k := by
  simp only [byteAt, dataBitAt, driveAt, h]

/-- The transaction and the completion of an entered operation (R202, R205). -/
theorem Entered.sessionDone {op : DevOp} {s u : State} {frames : List BusFrame} (h : Entered op s u)
    (hframes : commandFrames u.desc ++ payloadFrames u.desc s.host.buf = frames) (hne : frames ≠ []) :
    SessionDone op frames s (complete (transaction u)) := by
  have hdone : TransactionDone frames u (transaction u) := transaction_done (by rw [h.host]; exact hframes) hne
  obtain ⟨hie, hsaved, -, -, -, hinited, -, -, hcurop, -, -, -, hsize⟩ := transaction_run u
  have hcount := framesRun_congr h.env 1 frames.length
  have hok := hdone.ok.trans (allAcked_congr h.env 1 frames.length)
  have htrace := hdone.trace
  obtain ⟨hslot, hack⟩ := hdone.lastFrame
  rw [hcount, h.lead, h.host] at htrace
  rw [hcount, ackAt_congr h.env] at hack
  rw [h.host] at hie hsaved hsize
  generalize transaction u = t at *
  exact
    { result := ⟨hok, rfl, rfl⟩
      control := ⟨rfl, hcurop.trans h.curop, hok⟩
      trace := htrace.congr h.trace.symm rfl
      env := by rw [complete_env, hdone.env, h.env, hcount]
      line := hdone.line
      slotsRest := hdone.slotsRest
      lastFrame := ⟨hslot, hack⟩
      savedIe := hsaved
      inited := hinited.trans h.inited
      host := ⟨hie, hsize⟩ }

/-- A completed transaction leaves the descriptor, the operands and the orchestrator alone. -/
theorem complete_transaction_run (u : State) :
    (complete (transaction u)).desc = u.desc ∧ (complete (transaction u)).opnd = u.opnd ∧
    (complete (transaction u)).orch = u.orch := by
  obtain ⟨-, -, hdesc, hopnd, horch, -⟩ := transaction_run u
  rw [complete_desc, complete_opnd, complete_orch]
  exact ⟨hdesc, hopnd, horch⟩

/-- Without received bytes `STATUS_R` and the host's side are as before the request. -/
theorem Entered.keeps {op : DevOp} {s u : State} (h : Entered op s u) (hdir : u.desc.pdir = .none ∨ u.desc.pdir = .tx) :
    (complete (transaction u)).res.statusR = s.res.statusR ∧ (complete (transaction u)).host = s.host := by
  obtain ⟨hres, hhost⟩ := (openSession_open u).keeps hdir
  rw [← transaction_eq] at hres hhost
  rw [complete_res, complete_host, hres, hhost]
  exact ⟨h.statusR, h.host⟩

/-- A request without pre-check and buffer (R197 to R200), entered. -/
theorem entered_request {op : DevOp} (hlead : leadOf op = .standby) (i : Instr) (s : State) :
    Entered op s (enter op (start (present i) s)) :=
  ⟨rfl, hlead, rfl, rfl, rfl, rfl, rfl⟩

/-- A request without payload: its session, its result, its frame. -/
theorem plainRequest_done {op : DevOp} {i : Instr} {s : State} {frames : List BusFrame} (hready : s.ready)
    (hlead : leadOf op = .standby) (hdir : (descRow op (start (present i) s)).pdir = .none)
    (hframes : commandFrames (enter op (start (present i) s)).desc ++
      payloadFrames (enter op (start (present i) s)).desc s.host.buf = frames) (hne : frames ≠ []) :
    ∃ t, hostRequest i (runPlain op) s = .next t ∧ SessionDone op frames s t ∧ t.opnd = present i s.opnd ∧
      t.desc = { descRow op (start (present i) s) with lead := leadOf op } ∧ t.orch = s.orch ∧
      t.res.statusR = s.res.statusR ∧ t.host = s.host := by
  obtain ⟨hdesc, hopnd, horch⟩ := complete_transaction_run (enter op (start (present i) s))
  have hentered := entered_request hlead i s
  exact ⟨_, hostRequest_ready hready _ _, hentered.sessionDone hframes hne, hopnd, hdesc, horch, hentered.keeps (.inl hdir)⟩

/-- Settles O32: the row of WREN, two sent frames, the second with NoMAK. -/
theorem enableWrite : Obligations.EnableWrite := fun dev _ hready =>
  plainRequest_done (op := .enableWrite) (i := .enableWrite dev) hready rfl rfl rfl (List.cons_ne_nil _ _)

/-- Settles O33: the row of WRDI, two sent frames, the second with NoMAK. -/
theorem disableWrite : Obligations.DisableWrite := fun dev _ hready =>
  plainRequest_done (op := .disableWrite) (i := .disableWrite dev) hready rfl rfl rfl (List.cons_ne_nil _ _)

/-- Settles O35: the row of WRSR, three sent frames, the third with NoMAK. -/
theorem writeStatus : Obligations.WriteStatus := fun dev status _ hready =>
  plainRequest_done (op := .writeStatus) (i := .writeStatus dev status) hready rfl rfl rfl (List.cons_ne_nil _ _)

/-- Settles O34: the row of RDSR receives one frame into `STATUS_R` once its two command frames are acknowledged. -/
theorem readStatus : Obligations.ReadStatus := by
  intro dev s hready
  have hentered := entered_request (op := .readStatus) rfl (.readStatus dev) s
  obtain ⟨hdesc, hopnd, horch⟩ := complete_transaction_run (enter .readStatus (start (present (.readStatus dev)) s))
  obtain ⟨hhost, hstatus⟩ := (openSession_open (enter .readStatus (start (present (.readStatus dev)) s))).status rfl rfl
  rw [← transaction_eq, ← complete_host] at hhost
  rw [← transaction_eq] at hstatus
  exact ⟨_, hostRequest_ready hready _ _, hentered.sessionDone rfl (List.cons_ne_nil _ _), hopnd, hdesc, horch, hstatus,
    hhost⟩

/-! ## `read` and `start_write` -/

/-- `read` as its transaction begins: the request presented, its address and its row loaded (R194). -/
def enteredRead (dev : Byte) (offset length : Half) (s : State) : State :=
  enter .read (loadAddress (start (present (.read dev offset length)) s))

theorem enteredRead_entered (dev : Byte) (offset length : Half) (s : State) :
    Entered .read s (enteredRead dev offset length s) :=
  ⟨rfl, rfl, rfl, rfl, rfl, rfl, rfl⟩

theorem execRead_fits {dev : Byte} {offset length : Half} {s : State} (hready : s.ready)
    (hfits : length.toNat ≤ s.host.bufSize) :
    execRead dev offset length s = .next (complete (transaction (enteredRead dev offset length s))) :=
  (hostRequest_ready hready _ _).trans (if_pos (decide_eq_true ((Nat.zero_add _).trans_le hfits)))

/-- Reception `a` is frame `5 + a` of the session and is stored at index `a` (41_byte_framing.md R169). -/
theorem enteredRead_buffer (dev : Byte) (offset length : Half) {s : State} (hwf : s.host.buf.wf = true) (a : Nat) :
    memRead (complete (transaction (enteredRead dev offset length s))).host.buf a =
      if 4 + a < framesRun s 1 (4 + length.toNat) then byteAt s (20 * (5 + a)) else memRead s.host.buf a := by
  have hentered := enteredRead_entered dev offset length s
  obtain ⟨-, hbuffer⟩ := (openSession_open (enteredRead dev offset length s)).buffer rfl
  have hbase : (enteredRead dev offset length s).desc.pbase.toNat = 0 := rfl
  have hcmdlen : (enteredRead dev offset length s).desc.cmdlen.toNat = 4 := rfl
  have hplen : (enteredRead dev offset length s).desc.plen = length := rfl
  have hread := hbuffer (by rw [hentered.host]; exact hwf) a
  simp only [hbase, hcmdlen, hplen, Nat.zero_le, true_and, Nat.sub_zero, framesRun_congr hentered.env,
    byteAt_congr hentered.env, hentered.host, ← Nat.add_assoc] at hread
  rw [complete_host, transaction_eq]
  exact hread

/-- Settles O36: the row of READ; on success every reception ran. -/
theorem read : Obligations.Read := by
  intro dev offset length s hready hfits
  have hdone := (enteredRead_entered dev offset length s).sessionDone
    (frames := readFrames dev (hiByte offset) (loByte offset) length.toNat) rfl (List.cons_ne_nil _ _)
  obtain ⟨hdesc, hopnd, horch⟩ := complete_transaction_run (enteredRead dev offset length s)
  obtain ⟨hres, -⟩ := (openSession_open (enteredRead dev offset length s)).buffer rfl
  have hstatus : (complete (transaction (enteredRead dev offset length s))).res.statusR = s.res.statusR := by
    rw [complete_res, transaction_eq, hres]
    rfl
  refine ⟨_, execRead_fits hready hfits, hdone, hopnd, hdesc, horch, hstatus, fun hwf =>
    ⟨fun hsuccess a ha => ?_, enteredRead_buffer dev offset length hwf⟩⟩
  obtain ⟨hresult, -⟩ := hdone.result
  have hlen : (readFrames dev (hiByte offset) (loByte offset) length.toNat).length = 4 + length.toNat := by
    simp [readFrames, length_sentRun, length_receivedRun]
  have hall : allAcked s 1 (4 + length.toNat) = true := hlen ▸ hresult.symm.trans hsuccess
  refine (enteredRead_buffer dev offset length hwf a).trans (if_pos ?_)
  rw [framesRun_of_allAcked hall]
  omega

/-- `start_write` as its pre-check begins: the request presented, its operands and its row loaded (R195). -/
def enteredWrite (dev : Byte) (offset length : Half) (s : State) : State :=
  enter .startWrite (loadWriteOperands (start (present (.startWrite dev offset length)) s))

theorem enteredWrite_entered (dev : Byte) (offset length : Half) (s : State) :
    Entered .startWrite s (enteredWrite dev offset length s) :=
  ⟨rfl, rfl, rfl, rfl, rfl, rfl, rfl⟩

theorem execStartWrite_admitted {dev : Byte} {offset length : Half} {s : State} (hready : s.ready)
    (hpage : offset.toNat % 16 + length.toNat ≤ 16) (hfits : length.toNat ≤ s.host.bufSize) :
    execStartWrite dev offset length s = .next (complete (transaction (enteredWrite dev offset length s))) := by
  have hinPage : fitsPage offset length.toNat = true := decide_eq_true hpage
  have hinBuffer : payloadFits (enteredWrite dev offset length s) = true :=
    decide_eq_true ((Nat.zero_add _).trans_le hfits)
  exact (hostRequest_ready hready _ _).trans ((if_pos hinPage).trans (if_pos hinBuffer))

theorem execStartWrite_crossing {dev : Byte} {offset length : Half} {s : State} (hready : s.ready)
    (hcross : 16 < offset.toNat % 16 + length.toNat) :
    execStartWrite dev offset length s = .next (complete (raise .pageViolation (enteredWrite dev offset length s))) := by
  have hcrosses : ¬ fitsPage offset length.toNat = true := fun h => Nat.not_le.2 hcross (of_decide_eq_true h)
  exact (hostRequest_ready hready _ _).trans (if_neg hcrosses)

/-- Settles O37: the row of WRITE, its payload the buffer's first `LENGTH` bytes. -/
theorem startWrite : Obligations.StartWrite := by
  intro dev offset length s hready hpage hfits
  have hentered := enteredWrite_entered dev offset length s
  obtain ⟨hdesc, hopnd, horch⟩ := complete_transaction_run (enteredWrite dev offset length s)
  exact ⟨_, execStartWrite_admitted hready hpage hfits, hentered.sessionDone rfl (List.cons_ne_nil _ _), hopnd, hdesc, horch,
    hentered.keeps (.inr rfl)⟩

theorem enteredWrite_untouched (dev : Byte) (offset length : Half) (s : State) :
    Untouched s (enteredWrite dev offset length s) := by
  constructor <;> simp [enteredWrite]

/-- A failure that completes at once leaves what was untouched so (60_exceptions.md R264). -/
theorem Untouched.complete_raise {s u : State} (h : Untouched s u) (f : Failure) : Untouched s (complete (raise f u)) :=
  ⟨h.trace, h.env, h.line, h.slotE, h.frame, h.host, h.savedIe, h.inited, h.statusR⟩

/-- Settles O38: the pre-check comes before anything else, and its failure completes at once. -/
theorem pageViolation : Obligations.PageViolation := by
  intro dev offset length s hready hcross
  refine ⟨_, execStartWrite_crossing hready hcross, ⟨rfl, rfl, rfl, rfl, rfl⟩,
    (enteredWrite_untouched dev offset length s).complete_raise _, ?_⟩
  simp only [complete_opnd, complete_desc, complete_seq, complete_orch, raise_opnd, raise_desc, raise_seq, raise_orch]
  exact ⟨rfl, rfl, rfl, rfl, rfl⟩

/-! ## START, and `init` -/

/-- Settles O7: START is `exec` of what the request registers hold, and while busy it is used up. -/
theorem stepRunsRequest : Obligations.StepRunsRequest := by
  intro s rest hmoves
  refine ⟨fun i hbusy hfetch => (step_of_moves hmoves).trans ?_, fun hbusy => (step_of_moves hmoves).trans (if_pos hbusy)⟩
  have hpopped : fetchRequest { s with env := { s.env with moves := rest } } = .ok i := hfetch
  simp only [hostMove, hostStart, hbusy, hpopped, Bool.false_eq_true, if_false]

/-- Settles O31: with no request in progress `init` runs its two micro-operations and completes. -/
theorem initResult : Obligations.InitResult := by
  intro s hbusy
  have hidle : ¬ s.res.busy = true := by simp [hbusy]
  exact if_neg hidle

end Sys2Proof.Machine

/-! PROOF. The completion poll (43_device_operations.md R206 to R209): one poll, the polls up to the one that ends the loop, and
the six steps of the engine around one poll. -/

namespace Sys2Proof.Machine

/-! ## One poll -/

/-- The row of a completion poll (R201), over the cells it leaves open. -/
def pollRow (d : DescRegs) (dev : Byte) : DescRegs :=
  { rowC2 d dev Config.opcRdsr false .rxStatus 1 with lead := .gap }

/-- A run comes to its last frame exactly when those before it are acknowledged. -/
theorem framesRun_succ_eq_iff (s : State) (first n : Nat) :
    framesRun s first (n + 1) = n + 1 ↔ allAcked s first n = true := by
  have hone : framesRun s (first + n) 1 = 1 := by simp [framesRun]
  have hle := framesRun_le s first n
  rw [framesRun_add, hone]
  cases allAcked s first n with
  | true => simp
  | false =>
    simp only [Bool.false_eq_true, if_false, iff_false]
    omega

/-- `STATUS_R` after `m` busy polls and the poll that ends the loop: the last byte received (R209). -/
def statusAfterPolls (s : State) (m : Nat) : Byte :=
  if framesRun s (4 * m + 1) 3 = 3 then pollStatus s m else if m = 0 then s.res.statusR else pollStatus s (m - 1)

theorem statusAfterPolls_of_acked {s : State} (h : pollAcked s 0 = true) : statusAfterPolls s 0 = pollStatus s 0 :=
  if_pos (framesRun_of_allAcked h)

section
variable {s u : State} {d : DescRegs} {dev : Byte} (h : SessionOpen s u) (hrow : s.desc = pollRow d dev)
include h hrow

/-- A poll is three frames after the header (R207). -/
theorem SessionOpen.poll_done : TransactionDone (rdsrFrames dev) s (csExit (exchange u)) :=
  h.done (by rw [hrow]; rfl) (List.cons_ne_nil _ _)

theorem SessionOpen.poll_status :
    (csExit (exchange u)).host = s.host ∧ (csExit (exchange u)).res.statusR = statusAfterPolls s 0 := by
  obtain ⟨hhost, hstatus⟩ := h.status (by rw [hrow]; rfl) (by rw [hrow]; rfl)
  have hlen : s.desc.cmdlen.toNat = 2 := by rw [hrow]; rfl
  rw [hlen] at hstatus
  refine ⟨hhost, hstatus.trans ?_⟩
  simp only [statusAfterPolls, Nat.mul_zero, Nat.zero_add, framesRun_succ_eq_iff s 1 2, if_true]
  rfl

end

section
variable {s : State} {d : DescRegs} {dev : Byte} (hrow : s.desc = pollRow d dev)
include hrow

theorem poll_done : TransactionDone (rdsrFrames dev) s (transaction s) := by
  rw [transaction_eq]
  exact (openSession_open s).poll_done hrow

theorem poll_status : (transaction s).host = s.host ∧ (transaction s).res.statusR = statusAfterPolls s 0 := by
  rw [transaction_eq]
  exact (openSession_open s).poll_status hrow

/-- The trace of a poll begins with the gap (42_command_protocol.md R184). -/
theorem poll_traced :
    traced s (transaction s) (sessionShape gapShape s.host.ie ((rdsrFrames dev).take (framesRun s 1 3))) := by
  have htrace := (poll_done hrow).trace
  have hlead : s.desc.lead = .gap := by rw [hrow]; rfl
  rw [hlead] at htrace
  exact htrace

/-- A poll leads to another one when it is acknowledged and busy (R207). -/
theorem poll_stillPolling :
    stillPolling (transaction s) = (pollAcked s 0 && (pollStatus s 0).getLsbD 0) := by
  have hok : (transaction s).seq.ok = pollAcked s 0 := (poll_done hrow).ok
  obtain ⟨-, hstatus⟩ := poll_status hrow
  rw [stillPolling, wip, hok, hstatus]
  cases hacked : pollAcked s 0 with
  | true => rw [statusAfterPolls_of_acked hacked]
  | false => rfl

/-- A poll that is acknowledged throughout is four frames. -/
theorem poll_env_of_acked (hacked : pollAcked s 0 = true) : (transaction s).env = s.env.after (20 * 4) := by
  have hrun : framesRun s 1 (rdsrFrames dev).length = 3 := framesRun_of_allAcked hacked
  rw [(poll_done hrow).env, hrun]

end

/-! ## The polls of a loop -/

section
variable {s u : State} (henv : u.env = s.env.after (20 * 4))
include henv

theorem pollAcked_next (j : Nat) : pollAcked u j = pollAcked s (j + 1) := by
  have hfirst : 4 + (4 * j + 1) = 4 * (j + 1) + 1 := by omega
  rw [pollAcked, allAcked_after henv, hfirst, pollAcked]

theorem pollStatus_next (j : Nat) : pollStatus u j = pollStatus s (j + 1) := by
  have hfirst : 20 * 4 + 20 * (4 * j + 3) = 20 * (4 * (j + 1) + 3) := by omega
  rw [pollStatus, byteAt_after henv, hfirst, pollStatus]

theorem pollFrames_next (m : Nat) : framesRun u (4 * m + 1) 3 = framesRun s (4 * (m + 1) + 1) 3 := by
  have hfirst : 4 + (4 * m + 1) = 4 * (m + 1) + 1 := by omega
  rw [framesRun_after henv, hfirst]

/-- One more poll before the others, its byte in `STATUS_R`. -/
theorem statusAfterPolls_next (hstatus : u.res.statusR = pollStatus s 0) (m : Nat) :
    statusAfterPolls u m = statusAfterPolls s (m + 1) := by
  rw [statusAfterPolls, statusAfterPolls, pollFrames_next henv, pollStatus_next henv, hstatus, if_neg m.succ_ne_zero]
  cases m with
  | zero => rfl
  | succ m =>
    rw [if_neg m.succ_ne_zero, pollStatus_next henv]
    rfl

end

/-- What `m` busy polls and the poll that ends the loop leave (R207 to R209). -/
structure PollsDone (dev : Byte) (m : Nat) (s t : State) : Prop where
  ok : t.seq.ok = pollAcked s m
  ended : stillPolling t = false
  trace : traced s t ((List.replicate m (pollShape s.host.ie dev)).flatten ++
    sessionShape gapShape s.host.ie ((rdsrFrames dev).take (framesRun s (4 * m + 1) 3)))
  env : t.env = s.env.after (20 * (4 * m + 1 + framesRun s (4 * m + 1) 3))
  line : t.line = { dir := .output, lvl := true }
  host : t.host = s.host
  savedIe : t.savedIe = s.host.ie
  statusR : t.res.statusR = statusAfterPolls s m

section
variable {s : State} {d : DescRegs} {dev : Byte} (hrow : s.desc = pollRow d dev)
include hrow

/-- The poll that ends the loop. -/
theorem poll_ends (hend : pollAcked s 0 = false ∨ (pollStatus s 0).getLsbD 0 = false) :
    PollsDone dev 0 s (transaction s) := by
  have hdone := poll_done hrow
  obtain ⟨hhost, hstatus⟩ := poll_status hrow
  have hended : stillPolling (transaction s) = false := by
    rw [poll_stillPolling hrow]
    obtain h | h := hend
    · rw [h, Bool.false_and]
    · rw [h, Bool.and_false]
  exact ⟨hdone.ok, hended, poll_traced hrow, hdone.env, hdone.line, hhost, hdone.savedIe, hstatus⟩

/-- A busy poll before the others. -/
theorem PollsDone.cons {m : Nat} {t : State} (hacked : pollAcked s 0 = true) (h : PollsDone dev m (transaction s) t) :
    PollsDone dev (m + 1) s t := by
  obtain ⟨hhost, hstatus⟩ := poll_status hrow
  have henv := poll_env_of_acked hrow hacked
  have htrace := poll_traced hrow
  have hrun : framesRun s 1 3 = 3 := framesRun_of_allAcked hacked
  rw [hrun] at htrace
  rw [statusAfterPolls_of_acked hacked] at hstatus
  generalize transaction s = u at *
  have hrest := htrace.trans h.trace
  rw [hhost, pollFrames_next henv, ← List.append_assoc] at hrest
  exact
    { ok := h.ok.trans (pollAcked_next henv m)
      ended := h.ended
      trace := by rw [List.replicate_succ, List.flatten_cons]; exact hrest
      env := by
        rw [h.env, henv, Env.after_after, pollFrames_next henv]
        congr 1
        omega
      line := h.line
      host := h.host.trans hhost
      savedIe := by rw [h.savedIe, hhost]
      statusR := h.statusR.trans (statusAfterPolls_next henv hstatus m) }

end

theorem pollLoop_succ (fuel : Nat) (s : State) :
    pollLoop (fuel + 1) s = if stillPolling (transaction s) then pollLoop fuel (transaction s) else transaction s :=
  rfl

/-- The loop runs to the first poll that is not acknowledged or not busy, where it may run so many (log 19). -/
theorem pollLoop_done {s : State} {d : DescRegs} {dev : Byte} {m fuel : Nat} (hrow : s.desc = pollRow d dev) (hfuel : m < fuel)
    (hbusy : ∀ j < m, pollAcked s j = true ∧ (pollStatus s j).getLsbD 0 = true)
    (hend : pollAcked s m = false ∨ (pollStatus s m).getLsbD 0 = false) : PollsDone dev m s (pollLoop fuel s) := by
  induction m generalizing s fuel with
  | zero =>
    obtain ⟨fuel, rfl⟩ := Nat.exists_eq_succ_of_ne_zero hfuel.ne'
    have hdone := poll_ends hrow hend
    rw [pollLoop_succ, hdone.ended, if_neg Bool.false_ne_true]
    exact hdone
  | succ m ih =>
    obtain ⟨fuel, rfl⟩ := Nat.exists_eq_succ_of_ne_zero (Nat.ne_zero_of_lt hfuel)
    obtain ⟨hacked, hwip⟩ := hbusy 0 m.succ_pos
    obtain ⟨-, -, hdesc, -⟩ := transaction_run s
    have henv := poll_env_of_acked hrow hacked
    rw [pollLoop_succ, poll_stillPolling hrow, hacked, hwip, Bool.and_self, if_pos rfl]
    refine PollsDone.cons hrow hacked (ih (hdesc.trans hrow) (Nat.lt_of_succ_lt_succ hfuel) (fun j hj => ?_) ?_)
    · rw [pollAcked_next henv, pollStatus_next henv]
      exact hbusy (j + 1) (Nat.succ_lt_succ hj)
    · rw [pollAcked_next henv, pollStatus_next henv]
      exact hend

/-! ## `await_write_complete` -/

/-- `await_write_complete` before its first poll: the request presented, the row loaded, one standby pulse (R206). -/
def awaitBegun (dev : Byte) (s : State) : State := awaitOpen (start (present (.awaitWriteComplete dev)) s)

theorem awaitBegun_traced (dev : Byte) (s : State) : traced s (awaitBegun dev s) standbyShape := ⟨standbyShape, rfl, rfl⟩

/-- Where the polls have ended, `await_write_complete` completes. -/
theorem execAwait_ended {dev : Byte} {s : State} (hready : s.ready)
    (hended : stillPolling (pollLoop (pollFuel (awaitBegun dev s)) (awaitBegun dev s)) = false) :
    execAwaitWriteComplete dev s = .next (complete (pollLoop (pollFuel (awaitBegun dev s)) (awaitBegun dev s))) := by
  have hstop : ¬ stillPolling (runPolls (start (present (.awaitWriteComplete dev)) s)) = true := by
    rw [Bool.not_eq_true]
    exact hended
  exact (hostRequest_ready hready _ _).trans (congrArg Host.Outcome.next (if_neg hstop))

theorem lt_pollFuel {s : State} {m : Nat} (h : m = 0 ∨ 80 * m < s.env.script.length) : m < pollFuel s := by
  rw [pollFuel]
  omega

/-- Settles O41: the loop runs to the first poll that is not acknowledged or not busy, since that poll begins within the
script. -/
theorem awaitEnds : Obligations.AwaitEnds := by
  intro dev m s hready hscript hbusy hend
  have hdone : PollsDone dev m (awaitBegun dev s) (pollLoop (pollFuel (awaitBegun dev s)) (awaitBegun dev s)) :=
    pollLoop_done (d := s.desc) rfl (lt_pollFuel (s := awaitBegun dev s) hscript) hbusy hend
  have hsession := pollLoop_session (pollFuel (awaitBegun dev s)) (awaitBegun dev s)
  have hrun : RunsOn (awaitBegun dev s) (pollLoop (pollFuel (awaitBegun dev s)) (awaitBegun dev s)) :=
    (RunsOn.refl _).then_pollLoop _
  simp only [State.session, Prod.mk.injEq] at hsession
  obtain ⟨hdesc, hopnd, horch, hcurop, -⟩ := hsession
  refine ⟨_, execAwait_ended hready hdone.ended, ?_⟩
  generalize pollLoop (pollFuel (awaitBegun dev s)) (awaitBegun dev s) = t at hdone hdesc hopnd horch hcurop hrun ⊢
  have htrace := (awaitBegun_traced dev s).trans hdone.trace
  rw [← List.append_assoc] at htrace
  exact ⟨⟨hdone.ok, rfl, rfl, rfl, hdone.ok⟩, htrace, hdone.env, hdone.line, hdone.host, hdone.savedIe,
    hrun.inited hready.2, horch, hcurop, hopnd, hdesc, hdone.statusR⟩

/-! ## A busy poll, step by step -/

theorem step_waiting {s : State} (h : s.env.moves = []) : step s = engineStep s := by
  have hwait : nextMove s = .wait := by rw [nextMove, h]; rfl
  have htail : s.env.moves.tail = s.env.moves := by rw [h]; rfl
  have hpop : popMove s = s := by rw [popMove, htail]
  rw [step_wait hwait, hpop]

theorem steps_succ {s t : State} (h : s.env.moves = []) (ht : engineStep s = .next t) (k : Nat) :
    steps (k + 1) s = steps k t := by
  rw [steps, step_waiting h, ht]
  rfl

/-- Where the engine stands at the first command frame of a poll that began at its gap. -/
def pollCommand (s : State) : State := nextFrame .cmdFrame 0 (openSession (setPhase .hdrHold s))

theorem pollCommand_open (s : State) : SessionOpen s (pollCommand s) := by
  have h := openSession_open (setPhase .hdrHold s)
  rw [pollCommand]
  generalize openSession (setPhase .hdrHold s) = u at h ⊢
  exact ⟨h.trace.congr rfl rfl, h.env, h.ok, h.desc, h.opnd, h.orch, h.curop, h.inited, h.res, h.host, h.savedIe⟩

theorem pollCommand_atCommandStart (s : State) : atCommandStart (pollCommand s) = true := by
  have hqtr : (pollCommand s).slotE.qtr = 0 := (startHeader_drivenHigh _).qtr
  have hslot : (pollCommand s).frame.slot = 0 := rfl
  have hindex : (pollCommand s).seq.byteidx = 0 := rfl
  rw [atCommandStart, atFrameStart, hqtr, hslot, hindex]
  rfl

/-- Gap, `CS_ENTER` and header: three steps (45_sequencer_fsm.md R240, R241). -/
theorem steps_to_pollCommand {s : State} (hmoves : s.env.moves = []) (hphase : s.seq.phase = .gap) (hlead : s.desc.lead = .gap)
    (k : Nat) : steps (k + 3) s = steps k (pollCommand s) := by
  have hgap : engineStep s = .next (setPhase .csEnter (interCommandGap (setOk true s))) := by
    simp only [engineStep, hphase, fsmStep]
    rfl
  have hopen : setPhase .hdrHold (csEnter (setPhase .csEnter (interCommandGap (setOk true s)))) =
      csEnter (leadIn (setOk true (setPhase .hdrHold s))) := by
    rw [leadIn_gap (s := setOk true (setPhase .hdrHold s)) hlead]
    rfl
  have hmoves' : (csEnter (leadIn (setOk true (setPhase .hdrHold s)))).env.moves = [] :=
    (leadIn_frames (setOk true (setPhase .hdrHold s))).moves.trans hmoves
  have hheader : engineStep (csEnter (leadIn (setOk true (setPhase .hdrHold s)))) = .next (pollCommand s) := by
    have hheld : (csEnter (leadIn (setOk true (setPhase .hdrHold s)))).seq.phase = .hdrHold :=
      congrArg SeqRegs.phase (leadIn_frames (setOk true (setPhase .hdrHold s))).seq
    simp only [engineStep, hheld]
    rfl
  calc steps (k + 3) s
      = steps (k + 2) (setPhase .csEnter (interCommandGap (setOk true s))) := steps_succ hmoves hgap _
    _ = steps (k + 1) (setPhase .hdrHold (csEnter (setPhase .csEnter (interCommandGap (setOk true s))))) :=
      steps_succ (s := setPhase .csEnter (interCommandGap (setOk true s))) hmoves rfl _
    _ = steps (k + 1) (csEnter (leadIn (setOk true (setPhase .hdrHold s)))) := by rw [hopen]
    _ = steps k (pollCommand s) := steps_succ hmoves' hheader _

/-- With its row loaded and `OK` at 1 a command is its frames alone (log 17). -/
theorem sendCommand_loaded {s : State} (h : s.seq.ok = true) : sendCommand s.desc s = exchange s := by
  have hsame : setOk true (setDesc s.desc s) = s := by
    rw [← h]
    rfl
  rw [sendCommand, hsame]

/-- The command of a poll as one instruction: one step. -/
theorem engineStep_pollCommand {s : State} (hdesc : s.desc = { descRow .await s with lead := .gap }) :
    engineStep (pollCommand s) = .next (setPhase .csExit (exchange (pollCommand s))) := by
  have h := pollCommand_open s
  have hsession : (pollCommand s).session = s.session := by
    simp only [State.session, h.desc, h.opnd, h.orch, h.curop, h.host]
  have hloaded : (pollCommand s).desc = { descRow .await (pollCommand s) with lead := leadOf .await } := by
    rw [descRow_congr hsession, h.desc]
    exact hdesc
  have hexec : exec (DevOp.await.command (pollCommand s)) (pollCommand s) = .next (exchange (pollCommand s)) := by
    rw [← sendCommand_loaded h.ok]
    exact congrArg Host.Outcome.next ((exec_command_loaded hloaded).of_eq rfl)
  rw [engineStep_command rfl (pollCommand_atCommandStart s) (fetchWire_loaded hloaded), hexec]
  rfl

/-- `CS_EXIT` and the test of a busy poll: two steps back to the gap (R247, R248). -/
theorem steps_from_csExit {v : State} (hmoves : v.env.moves = []) (hok : v.seq.ok = true) (hcurop : v.seq.curop = .op .await)
    (hwip : wip v = true) (k : Nat) : steps (k + 2) (setPhase .csExit v) = steps k (setPhase .gap (csExit v)) := by
  have hexit : engineStep (setPhase .csExit v) = .next (setPhase .pollTest (csExit (setPhase .csExit v))) := by
    have htable : fsmCsExit (setPhase .csExit v) = setPhase .pollTest (csExit (setPhase .csExit v)) := by
      simp [fsmCsExit, hok, hcurop]
    exact congrArg Host.Outcome.next htable
  have htest : engineStep (setPhase .pollTest (csExit (setPhase .csExit v))) = .next (setPhase .gap (csExit v)) :=
    congrArg Host.Outcome.next (if_pos hwip)
  exact (steps_succ (s := setPhase .csExit v) hmoves hexit _).trans
    (steps_succ (s := setPhase .pollTest (csExit (setPhase .csExit v))) hmoves htest k)

/-- The results after a run of frames: `STATUS_R` alone may be another (R209). -/
theorem SameBesidesRun.res_eq {s t : State} (h : SameBesidesRun s t) : t.res = { s.res with statusR := t.res.statusR } := by
  show t.res = ⟨s.res.success, t.res.statusR, s.res.busy, s.res.done⟩
  rw [← h.success, ← h.busy, ← h.done]

/-- Settles O43: three steps to the first command frame, the command, `CS_EXIT`, and the test that turns back to the gap. -/
theorem pollCycle : Obligations.PollCycle := by
  intro s hmoves hphase hcurop _ hdesc hacked hwip
  have hopen := pollCommand_open s
  have hrun := exchange_run (pollCommand s)
  have hrow : s.desc = pollRow s.desc s.opnd.devaddr := hdesc
  have hlead : s.desc.lead = .gap := by rw [hdesc]
  have hdone := hopen.poll_done hrow
  have hok := hdone.ok.trans hacked
  obtain ⟨hhost, hstatus⟩ := hopen.poll_status hrow
  have hframes : framesRun s 1 (rdsrFrames s.opnd.devaddr).length = 3 := framesRun_of_allAcked hacked
  have henv := hdone.env
  have htrace := hdone.trace
  rw [hframes] at henv htrace
  rw [hlead] at htrace
  rw [statusAfterPolls_of_acked hacked] at hstatus
  have hcommand := engineStep_pollCommand hdesc
  have hcmdMoves : (pollCommand s).env.moves = [] := by rw [hopen.env, Env.after_moves, hmoves]
  generalize exchange (pollCommand s) = v at *
  have hvMoves : v.env.moves = [] := hrun.moves.trans hcmdMoves
  have hvCurop : v.seq.curop = .op .await := (hrun.curop.trans hopen.curop).trans hcurop
  have hbusy : wip v = true := (congrArg (BitVec.getLsbD · 0) hstatus).trans hwip
  have hres : v.res = { s.res with statusR := pollStatus s 0 } := by
    rw [hrun.res_eq, hopen.res, ← hstatus]
    rfl
  refine ⟨setPhase .gap (csExit v), ?steps, rfl, hvCurop, hdone.slotsRest.1, hvMoves, hrun.desc.trans hopen.desc,
    hrun.opnd.trans hopen.opnd, hrun.orch.trans hopen.orch, hhost, hrun.inited.trans hopen.inited, hres, henv,
    htrace.congr rfl rfl⟩
  calc steps 6 s
      = steps 3 (pollCommand s) := steps_to_pollCommand hmoves hphase hlead 3
    _ = steps 2 (setPhase .csExit v) := steps_succ hcmdMoves hcommand 2
    _ = steps 0 (setPhase .gap (csExit v)) := steps_from_csExit hvMoves hok hvCurop hbusy 0

end Sys2Proof.Machine

/-! PROOF. The chunks of a paged write (44_paged_write.md R221 to R223, R226, R229): the chunk law, and what a list of chunks cut
by it covers. -/

namespace Sys2Proof.Machine

/-! ## The chunk law -/

section
variable (rem addr : Half)

theorem chunkLength_le_rem : chunkLength rem addr ≤ rem.toNat := Nat.min_le_left _ _

theorem chunkLength_inPage : addr.toNat % 16 + chunkLength rem addr ≤ 16 := by
  have hmin : chunkLength rem addr ≤ 16 - addr.toNat % 16 := Nat.min_le_right _ _
  omega

theorem chunkLength_le_sixteen : chunkLength rem addr ≤ 16 :=
  (Nat.le_add_left _ _).trans (chunkLength_inPage rem addr)

/-- A chunk that is not the last stops at the end of its page. -/
theorem chunkLength_ends : chunkLength rem addr = rem.toNat ∨ addr.toNat % 16 + chunkLength rem addr = 16 := by
  obtain h | h := min_choice rem.toNat (Config.pageSize - addr.toNat % Config.pageSize)
  · exact .inl h
  · have hpage : chunkLength rem addr = 16 - addr.toNat % 16 := h
    omega

variable {rem}

theorem chunkLength_pos (h : rem ≠ 0) : 1 ≤ chunkLength rem addr := by
  have hrem := BitVec.toNat_pos_of_ne_zero h
  have hends := chunkLength_ends rem addr
  omega

end

theorem fitsPage_chunkLength (rem addr : Half) : fitsPage addr (chunkLength rem addr) = true :=
  decide_eq_true (chunkLength_inPage rem addr)

/-- `CHUNK` has five bits, which hold every chunk's length (10_state.md R50). -/
theorem takeChunk_toNat (s : State) : (takeChunk s).orch.chunk.toNat = chunkLength s.orch.rem s.orch.curAddr := by
  have hle := chunkLength_le_sixteen s.orch.rem s.orch.curAddr
  rw [takeChunk_orch, BitVec.toNat_ofNat]
  omega

/-- Settles O44: the minimum of what remains and what the page has left. -/
theorem chunkLaw : Obligations.ChunkLaw := by
  intro rem addr hrem
  refine ⟨chunkLength_pos addr hrem, chunkLength_le_sixteen rem addr, chunkLength_le_rem rem addr,
    fitsPage_chunkLength rem addr, ?_, ?_⟩
  · have hends := chunkLength_ends rem addr
    omega
  · rintro s rfl rfl
    exact takeChunk_toNat s

/-! ## What an advance past a chunk leaves -/

theorem toNat_rem_sub_chunk (rem addr : Half) :
    (rem - BitVec.ofNat 16 (chunkLength rem addr)).toNat = rem.toNat - chunkLength rem addr := by
  have hlt := chunkLength_le_sixteen rem addr
  have hsmall : (BitVec.ofNat 16 (chunkLength rem addr)).toNat = chunkLength rem addr := by
    rw [BitVec.toNat_ofNat]
    omega
  have hle : BitVec.ofNat 16 (chunkLength rem addr) ≤ rem := by
    rw [BitVec.le_def, hsmall]
    exact chunkLength_le_rem rem addr
  rw [BitVec.toNat_sub_of_le hle, hsmall]

/-- A page is 16 bytes, and addresses wrap at a multiple of it (R226). -/
theorem toNat_add_ofNat_mod (addr : Half) (n : Nat) : (addr + BitVec.ofNat 16 n).toNat % 16 = (addr.toNat + n) % 16 := by
  rw [BitVec.toNat_add, BitVec.toNat_ofNat]
  omega

/-- Past a chunk that is not the last one the address is at the beginning of a page. -/
theorem next_addr_aligned {rem addr : Half} (h : rem - BitVec.ofNat 16 (chunkLength rem addr) ≠ 0) :
    (addr + BitVec.ofNat 16 (chunkLength rem addr)).toNat % 16 = 0 := by
  have hrem := BitVec.toNat_pos_of_ne_zero h
  have hends := chunkLength_ends rem addr
  rw [toNat_rem_sub_chunk] at hrem
  rw [toNat_add_ofNat_mod]
  omega

/-! ## Lists of chunks -/

@[simp] theorem chunksFrom_zero_rem (fuel : Nat) (addr : Half) (ptr : Nat) : chunksFrom fuel addr ptr 0 = [] := by
  cases fuel <;> rfl

theorem chunksFrom_succ {rem : Half} (h : rem ≠ 0) (fuel : Nat) (addr : Half) (ptr : Nat) :
    chunksFrom (fuel + 1) addr ptr rem =
      { addr := addr, ptr := ptr, len := chunkLength rem addr } ::
        chunksFrom fuel (addr + BitVec.ofNat 16 (chunkLength rem addr)) (ptr + chunkLength rem addr)
          (rem - BitVec.ofNat 16 (chunkLength rem addr)) :=
  if_neg h

/-- The fuel that a chunk leaves is enough for the chunks after it. -/
theorem rem_sub_chunk_le {rem : Half} {fuel : Nat} (h : rem ≠ 0) (addr : Half) (hfuel : rem.toNat ≤ fuel + 1) :
    (rem - BitVec.ofNat 16 (chunkLength rem addr)).toNat ≤ fuel := by
  have hpos := chunkLength_pos addr h
  rw [toNat_rem_sub_chunk]
  omega

/-- The formula (R222), in every point of the write. -/
theorem length_chunksFrom {fuel : Nat} {addr rem : Half} (ptr : Nat) (hfuel : rem.toNat ≤ fuel) (hrem : rem ≠ 0) :
    (chunksFrom fuel addr ptr rem).length = (addr.toNat % 16 + rem.toNat - 1) / 16 + 1 := by
  induction fuel generalizing addr ptr rem with
  | zero => exact absurd (BitVec.toNat_pos_of_ne_zero hrem) (by omega)
  | succ fuel ih =>
    have hpos := chunkLength_pos addr hrem
    have hpage := chunkLength_inPage rem addr
    have hends := chunkLength_ends rem addr
    have hleft := toNat_rem_sub_chunk rem addr
    rw [chunksFrom_succ hrem, List.length_cons]
    by_cases hlast : rem - BitVec.ofNat 16 (chunkLength rem addr) = 0
    · have hnone : (rem - BitVec.ofNat 16 (chunkLength rem addr)).toNat = 0 := congrArg BitVec.toNat hlast
      rw [hlast, chunksFrom_zero_rem, List.length_nil]
      omega
    · have hmore := BitVec.toNat_pos_of_ne_zero hlast
      rw [ih _ (rem_sub_chunk_le hrem addr hfuel) hlast, next_addr_aligned hlast, hleft]
      omega

theorem sum_len_chunksFrom {fuel : Nat} {addr rem : Half} (ptr : Nat) (hfuel : rem.toNat ≤ fuel) :
    ((chunksFrom fuel addr ptr rem).map Chunk.len).sum = rem.toNat := by
  induction fuel generalizing addr ptr rem with
  | zero => exact (Nat.le_zero.1 hfuel).symm
  | succ fuel ih =>
    by_cases hrem : rem = 0
    · rw [hrem, chunksFrom_zero_rem]
      rfl
    · rw [chunksFrom_succ hrem, List.map_cons, List.sum_cons, ih _ (rem_sub_chunk_le hrem addr hfuel), toNat_rem_sub_chunk]
      exact Nat.add_sub_of_le (chunkLength_le_rem rem addr)

/-- A chunk of the bytes from address `addr` and index `ptr` on lies in one page and inside the bytes; its address is as far past
`addr` as its index is past `ptr` (R223, R226). -/
structure Chunk.Inside (addr : Half) (ptr rem : Nat) (c : Chunk) : Prop where
  pos : 1 ≤ c.len
  page : c.addr.toNat % 16 + c.len ≤ 16
  starts : ptr ≤ c.ptr
  ends : c.ptr + c.len ≤ ptr + rem
  addr : c.addr = addr + BitVec.ofNat 16 (c.ptr - ptr)

theorem chunksFrom_inside {fuel : Nat} {addr rem : Half} {ptr : Nat} {c : Chunk}
    (hc : c ∈ chunksFrom fuel addr ptr rem) : c.Inside addr ptr rem.toNat := by
  induction fuel generalizing addr ptr rem with
  | zero => cases hc
  | succ fuel ih =>
    by_cases hrem : rem = 0
    · rw [hrem, chunksFrom_zero_rem] at hc
      cases hc
    · have hle := chunkLength_le_rem rem addr
      rw [chunksFrom_succ hrem] at hc
      obtain rfl | hc := List.mem_cons.1 hc
      · exact ⟨chunkLength_pos addr hrem, chunkLength_inPage rem addr, le_rfl, Nat.add_le_add_left hle ptr, by simp⟩
      · obtain ⟨hpos, hpage, hstarts, hends, haddr⟩ := ih hc
        have hindex : chunkLength rem addr + (c.ptr - (ptr + chunkLength rem addr)) = c.ptr - ptr := by omega
        rw [toNat_rem_sub_chunk] at hends
        exact ⟨hpos, hpage, by omega, by omega,
          by rw [haddr, BitVec.add_assoc, ← BitVec.ofNat_add, hindex]⟩

theorem head_chunksFrom {fuel : Nat} {addr rem : Half} {ptr : Nat} {c : Chunk}
    (h : (chunksFrom fuel addr ptr rem).head? = some c) : c.addr = addr ∧ c.ptr = ptr ∧ rem ≠ 0 := by
  cases fuel with
  | zero => cases h
  | succ fuel =>
    by_cases hrem : rem = 0
    · rw [hrem, chunksFrom_zero_rem] at h
      cases h
    · rw [chunksFrom_succ hrem] at h
      cases h
      exact ⟨rfl, rfl, hrem⟩

/-- `d` begins where `c` ends, on a page boundary (R221). -/
def Chunk.Before (c d : Chunk) : Prop := d.ptr = c.ptr + c.len ∧ d.addr.toNat % 16 = 0

theorem chunksFrom_chain (fuel : Nat) (addr rem : Half) (ptr : Nat) :
    (chunksFrom fuel addr ptr rem).IsChain Chunk.Before := by
  induction fuel generalizing addr ptr rem with
  | zero => exact .nil
  | succ fuel ih =>
    by_cases hrem : rem = 0
    · rw [hrem, chunksFrom_zero_rem]
      exact .nil
    · rw [chunksFrom_succ hrem, List.isChain_cons]
      refine ⟨fun d hd => ?_, ih ..⟩
      obtain ⟨haddr, hptr, hmore⟩ := head_chunksFrom hd
      exact ⟨hptr, by rw [haddr, next_addr_aligned hmore]⟩

theorem chunksOf_inside {offset length : Half} {c : Chunk} (hc : c ∈ chunksOf offset length) :
    c.Inside offset 0 length.toNat :=
  chunksFrom_inside hc

/-- Settles O45: each fact by induction on the chunks that remain. -/
theorem chunksCover : Obligations.ChunksCover := by
  intro offset length
  refine ⟨length_chunksFrom 0 le_rfl, sum_len_chunksFrom 0 le_rfl, fun c hc => ?_, fun c hc => ?_, fun k hk => ?_⟩
  · obtain ⟨hpos, hpage, -, hends, haddr⟩ := chunksOf_inside hc
    exact ⟨hpos, hpage, by rwa [Nat.zero_add] at hends, haddr⟩
  · obtain ⟨-, hptr, -⟩ := head_chunksFrom hc
    exact hptr
  · exact List.isChain_iff_getElem.1 (chunksFrom_chain length.toNat offset length 0) k hk

end Sys2Proof.Machine

/-! PROOF. The chunk loop's registers (44_paged_write.md R220, R221, R229): `simple_write` loads them, `CHUNK_CALC` takes a chunk by
the law, `CHUNK_ADV` moves its bytes from `REM` to `CUR_PTR`, and nothing else inside the operation writes them. -/

namespace Sys2Proof.Machine

/-! ## The registers of the chunk loop -/

/-- The registers that the chunk loop goes by: the operands, the orchestrator, and the buffer's size. -/
def State.paging (s : State) : OperandRegs × OrchRegs × Nat := (s.opnd, s.orch, s.host.bufSize)

theorem paging_of_session {s t : State} (h : t.session = s.session) : t.paging = s.paging := by
  simp only [State.session, Prod.mk.injEq] at h
  obtain ⟨-, hopnd, horch, -, hsize⟩ := h
  simp only [State.paging, hopnd, horch, hsize]

theorem opnd_of_paging {s t : State} (h : t.paging = s.paging) : t.opnd = s.opnd := congrArg Prod.fst h

theorem orch_of_paging {s t : State} (h : t.paging = s.paging) : t.orch = s.orch := congrArg (fun p => p.2.1) h

/-- Between two chunks: what is done and what remains make up the write, and it lies in the buffer. -/
structure State.betweenChunks (s : State) : Prop where
  counted : s.orch.curPtr.toNat + s.orch.rem.toNat = s.opnd.length.toNat
  fits : s.opnd.length.toNat ≤ s.host.bufSize

/-- Inside a chunk that the law has given. -/
structure State.insideChunk (s : State) : Prop extends s.betweenChunks where
  more : s.orch.rem ≠ 0
  law : s.orch.chunk.toNat = chunkLength s.orch.rem s.orch.curAddr

/-- Inside a chunk, if the operation is `simple_write`. -/
def State.followsChunks (s : State) : Prop := s.opnd.opsel = 8#4 → s.insideChunk

theorem State.insideChunk.congr {s t : State} (h : s.insideChunk) (ht : t.paging = s.paging) : t.insideChunk := by
  simp only [State.paging, Prod.mk.injEq] at ht
  obtain ⟨hopnd, horch, hsize⟩ := ht
  obtain ⟨⟨hcounted, hfits⟩, hmore, hlaw⟩ := h
  exact ⟨⟨by rwa [hopnd, horch], by rwa [hopnd, hsize]⟩, by rwa [horch], by rwa [horch]⟩

theorem State.followsChunks.congr {s t : State} (h : s.followsChunks) (ht : t.paging = s.paging) : t.followsChunks := by
  have hopnd := opnd_of_paging ht
  exact fun hop => (h (hopnd ▸ hop)).congr ht

theorem loadPagedOperands_betweenChunks {s : State} (h : s.opnd.length.toNat ≤ s.host.bufSize) :
    (loadPagedOperands s).betweenChunks :=
  ⟨Nat.zero_add _, h⟩

/-- `CHUNK_CALC` with bytes left (R249). -/
theorem State.betweenChunks.takeChunk {s : State} (h : s.betweenChunks) (hrem : s.orch.rem ≠ 0) :
    (takeChunk s).insideChunk :=
  ⟨⟨h.counted, h.fits⟩, hrem, takeChunk_toNat s⟩

/-- The chunk in the width of the address registers. -/
theorem State.insideChunk.setWidth_chunk {s : State} (h : s.insideChunk) :
    s.orch.chunk.setWidth 16 = BitVec.ofNat 16 (chunkLength s.orch.rem s.orch.curAddr) := by
  rw [← h.law]
  exact BitVec.eq_of_toNat_eq (by simp)

theorem State.insideChunk.advance {s : State} (h : s.insideChunk) :
    (advanceChunk s).orch =
      { s.orch with
        curAddr := s.orch.curAddr + BitVec.ofNat 16 (chunkLength s.orch.rem s.orch.curAddr)
        curPtr := s.orch.curPtr + BitVec.ofNat 16 (chunkLength s.orch.rem s.orch.curAddr)
        rem := s.orch.rem - BitVec.ofNat 16 (chunkLength s.orch.rem s.orch.curAddr) } := by
  rw [← h.setWidth_chunk]
  rfl

/-- `CUR_PTR` stays within the write, so that it never wraps (R229). -/
theorem State.insideChunk.advance_curPtr {s : State} (h : s.insideChunk) :
    (advanceChunk s).orch.curPtr.toNat = s.orch.curPtr.toNat + chunkLength s.orch.rem s.orch.curAddr := by
  have hcounted := h.counted
  have hle := chunkLength_le_rem s.orch.rem s.orch.curAddr
  have hlength := s.opnd.length.isLt
  rw [h.advance, BitVec.toNat_add, BitVec.toNat_ofNat]
  omega

/-- `CHUNK_ADV` (R250). -/
theorem State.insideChunk.advanceChunk {s : State} (h : s.insideChunk) : (advanceChunk s).betweenChunks where
  counted := by
    have hrem : (Machine.advanceChunk s).orch.rem.toNat = s.orch.rem.toNat - chunkLength s.orch.rem s.orch.curAddr := by
      rw [h.advance, toNat_rem_sub_chunk]
    have hcounted := h.counted
    have hle := chunkLength_le_rem s.orch.rem s.orch.curAddr
    rw [h.advance_curPtr, hrem, advanceChunk_opnd]
    omega
  fits := h.fits

/-! ## The clause by phase -/

theorem chunksInStep_of_unpaged {s : State} (h : pagedPhase s.seq.phase = false) : s.chunksInStep :=
  fun _ hpaged => absurd hpaged (by simp [h])

theorem chunksInStep_of_opsel_ne {s : State} (h : s.opnd.opsel ≠ 8#4) : s.chunksInStep := fun hop => absurd hop h

theorem chunksInStep_at_chunkCalc {s : State} (h : s.opnd.opsel = 8#4 → s.betweenChunks) :
    (setPhase .chunkCalc s).chunksInStep :=
  fun hop _ => ⟨(h hop).counted, (h hop).fits, fun hne => absurd rfl hne⟩

theorem State.followsChunks.chunksInStep {s : State} (h : s.followsChunks) : s.chunksInStep :=
  fun hop _ => ⟨(h hop).counted, (h hop).fits, fun _ => ⟨(h hop).more, (h hop).law⟩⟩

theorem State.chunksInStep.betweenChunks {s : State} {p : Phase} (h : s.chunksInStep) (hp : s.seq.phase = p)
    (hpaged : pagedPhase p = true) (hop : s.opnd.opsel = 8#4) : s.betweenChunks := by
  obtain ⟨hcounted, hfits, -⟩ := h hop (by rwa [hp])
  exact ⟨hcounted, hfits⟩

theorem State.chunksInStep.followsChunks {s : State} {p : Phase} (h : s.chunksInStep) (hp : s.seq.phase = p)
    (hpaged : pagedPhase p = true) (hpast : p ≠ .chunkCalc) : s.followsChunks := by
  intro hop
  obtain ⟨hcounted, hfits, hpastCalc⟩ := h hop (by rwa [hp])
  obtain ⟨hmore, hlaw⟩ := hpastCalc (by rwa [hp])
  exact ⟨⟨hcounted, hfits⟩, hmore, hlaw⟩

/-- The sequencer goes on within a chunk. -/
theorem State.followsChunks.setPhase {s u : State} {p : Phase} (h : s.followsChunks) (hu : u.paging = s.paging) :
    (setPhase p u).chunksInStep :=
  State.followsChunks.chunksInStep (h.congr (t := Machine.setPhase p u) hu)

theorem State.followsChunks.nextFrame {s : State} (h : s.followsChunks) (p : Phase) (i : Nat) :
    (nextFrame p i s).chunksInStep :=
  h.setPhase (u := setSlot 0 (setByteidx i s)) rfl

/-! ## The phases outside the frames -/

theorem fsmDispatch_chunksInStep (s : State) : OnNext State.chunksInStep (fsmDispatch s) := by
  have hother : ∀ {t : State} {n : Nat}, t.opnd.opsel.toNat = n → n ≠ 8 → t.chunksInStep := by
    rintro t n rfl hn
    exact chunksInStep_of_opsel_ne fun hop => hn (congrArg BitVec.toNat hop)
  simp only [fsmDispatch]
  split
  · exact chunksInStep_of_unpaged rfl
  · split
    · exact chunksInStep_of_unpaged rfl
    · split
      next => exact chunksInStep_of_unpaged rfl
      next hop =>
        split
        · exact hother hop (by decide)
        · trivial
      next hop => exact hother hop (by decide)
      next hop => exact hother hop (by decide)
      next hop => exact hother hop (by decide)
      next hop => exact hother hop (by decide)
      next hop => exact hother hop (by decide)
      next hop => exact hother hop (by decide)
      next =>
        split
        next hfits => exact chunksInStep_at_chunkCalc fun _ => ⟨Nat.zero_add _, hfits⟩
        next => trivial

theorem fsmPrecheck_chunksInStep {s : State} (h : s.followsChunks) : OnNext State.chunksInStep (fsmPrecheck s) := by
  unfold fsmPrecheck
  split
  · split
    · exact h.setPhase rfl
    · trivial
  · exact chunksInStep_of_unpaged rfl

theorem fsmCsExit_chunksInStep {s : State} (h : s.followsChunks) : (fsmCsExit s).chunksInStep := by
  simp only [fsmCsExit]
  split
  · exact chunksInStep_of_unpaged rfl
  · split
    · exact h.setPhase rfl
    · split
      · exact h.setPhase rfl
      · split
        · exact h.setPhase rfl
        · exact chunksInStep_of_unpaged rfl

theorem fsmPollTest_chunksInStep {s : State} (h : s.followsChunks) : (fsmPollTest s).chunksInStep := by
  unfold fsmPollTest
  split
  · exact h.setPhase rfl
  · split
    · exact h.setPhase rfl
    · exact chunksInStep_of_unpaged rfl

theorem fsmChunkCalc_chunksInStep {s : State} (h : s.opnd.opsel = 8#4 → s.betweenChunks) :
    (fsmChunkCalc s).chunksInStep := by
  unfold fsmChunkCalc
  split
  next => exact chunksInStep_of_unpaged rfl
  next hrem =>
    have htaken : (takeChunk s).followsChunks := fun hop => (h hop).takeChunk hrem
    exact htaken.setPhase rfl

/-- One phase outside the frames. -/
theorem fsmStep_phase_chunksInStep {s : State} (h : s.chunksInStep) (hframe : isFramePhase s.seq.phase = false) :
    OnNext State.chunksInStep (fsmStep s) := by
  unfold fsmStep
  cases hp : s.seq.phase with
  | idle => exact h
  | dispatch => exact fsmDispatch_chunksInStep s
  | precheck => exact fsmPrecheck_chunksInStep (h.followsChunks hp rfl (by decide))
  | stbyLow => exact (h.followsChunks hp rfl (by decide)).setPhase rfl
  | stbyHigh => exact (h.followsChunks hp rfl (by decide)).setPhase rfl
  | gap => exact (h.followsChunks hp rfl (by decide)).setPhase rfl
  | csEnter => exact (h.followsChunks hp rfl (by decide)).setPhase rfl
  | hdrHold => exact (h.followsChunks hp rfl (by decide)).setPhase rfl
  | hdrFrame | cmdFrame | txFrame | rxFrame => simp [hp, isFramePhase] at hframe
  | csExit => exact fsmCsExit_chunksInStep (h.followsChunks hp rfl (by decide))
  | pollTest => exact fsmPollTest_chunksInStep (h.followsChunks hp rfl (by decide))
  | chunkCalc => exact fsmChunkCalc_chunksInStep (h.betweenChunks hp rfl)
  | chunkAdv =>
    exact chunksInStep_at_chunkCalc (s := advanceChunk s) fun hop => (h.followsChunks hp rfl (by decide) hop).advanceChunk
  | initDo => exact chunksInStep_of_unpaged rfl
  | finish => exact chunksInStep_of_unpaged rfl

/-! ## The frames, and a whole wire command -/

theorem commandFrameEnd_paging (s : State) : (commandFrameEnd s).paging = s.paging := by
  unfold commandFrameEnd
  split
  · rfl
  · split
    · rfl
    · split
      · rfl
      · split <;> rfl

theorem payloadFrameEnd_paging (p : Phase) (s : State) : (payloadFrameEnd p s).paging = s.paging := by
  unfold payloadFrameEnd
  split
  · rfl
  · split <;> rfl

theorem frameEnd_paging (s : State) : (frameEnd s).paging = s.paging := by
  unfold frameEnd
  split
  · rfl
  · exact commandFrameEnd_paging s
  · exact payloadFrameEnd_paging .txFrame s
  · exact payloadFrameEnd_paging .rxFrame s
  · rfl

theorem SameBesidesFrames.paging {s t : State} (g : SameBesidesFrames s t) : t.paging = s.paging :=
  paging_of_session g.session

theorem FrameMove.paging {s t : State} (g : FrameMove s t) : t.paging = s.paging := by
  cases g with
  | stays g => exact g.paging
  | ends u g ht =>
    subst ht
    exact (frameEnd_paging u).trans g.paging
  | stores u g hrx ht => exact (ht.paging.trans (paging_of_session (storeReceived_session u))).trans g.paging

theorem sendCommand_paging (d : DescRegs) (s : State) : (sendCommand d s).paging = s.paging := by
  have hrun : SameBesidesRun (setOk true (setDesc d s)) (sendCommand d s) := exchange_run _
  exact paging_of_session (s := setOk true (setDesc d s)) hrun.session

theorem exec_wire_paging {i : Instr} (hi : i.isRequest = false) (s : State) :
    OnNext (fun t => t.paging = s.paging) (exec i s) := by
  have hbuffered : ∀ d, OnNext (fun t => t.paging = s.paging) (sendBufferedCommand d s) := by
    intro d
    unfold sendBufferedCommand
    split
    · exact sendCommand_paging d s
    · trivial
  cases i with
  | wireRead dev hi lo => exact hbuffered _
  | wireWrite dev hi lo => exact hbuffered _
  | wireWren dev => exact sendCommand_paging _ s
  | wireWrdi dev => exact sendCommand_paging _ s
  | wireRdsr dev => exact sendCommand_paging _ s
  | wireWrsr dev status => exact sendCommand_paging _ s
  | crrd | eral | setal => trivial
  | startHeader => exact (startHeader_frames s).paging
  | bit1 => exact (exchangeBit_frames true s).paging
  | bit0 => exact (exchangeBit_frames false s).paging
  | _ => cases hi

/-! ## Requests -/

theorem runPolls_paging (s : State) : (runPolls s).paging = s.paging :=
  paging_of_session (s := awaitOpen s) (pollLoop_session _ (awaitOpen s))

theorem transaction_enter_paging (op : DevOp) (s : State) : (transaction (enter op s)).paging = s.paging :=
  paging_of_session (s := enter op s) (transaction_session _)

/-- A chunk takes its length and writes none of the loop's registers after that. -/
theorem runChunk_paging (s : State) : (runChunk s).paging = (takeChunk s).paging := by
  have henable := transaction_enter_paging .enableWrite (takeChunk s)
  have hwrite := (transaction_enter_paging .startWrite (transaction (enter .enableWrite (takeChunk s)))).trans henable
  simp only [runChunk]
  generalize transaction (enter .enableWrite (takeChunk s)) = t at *
  split
  · split
    · split
      · exact (runPolls_paging _).trans hwrite
      · exact hwrite
    · exact henable
  · exact henable

theorem complete_chunksInStep (s : State) : (complete s).chunksInStep := chunksInStep_of_unpaged rfl

theorem chunkLoop_chunksInStep (fuel : Nat) {s : State} (h : s.betweenChunks) : (chunkLoop fuel s).chunksInStep := by
  induction fuel generalizing s with
  | zero => exact complete_chunksInStep s
  | succ fuel ih =>
    simp only [chunkLoop]
    split
    next => exact complete_chunksInStep s
    next hrem =>
      have hchunk : (runChunk s).insideChunk := (h.takeChunk hrem).congr (runChunk_paging s)
      split
      · exact complete_chunksInStep _
      · split
        · exact State.followsChunks.setPhase (s := runChunk s) (fun _ => hchunk) rfl
        · exact ih hchunk.advanceChunk

theorem runSimpleWrite_chunksInStep (s : State) : OnNext State.chunksInStep (runSimpleWrite s) := by
  simp only [runSimpleWrite]
  split
  next hfits => exact chunkLoop_chunksInStep _ (loadPagedOperands_betweenChunks hfits)
  next => trivial

theorem runAwait_chunksInStep {s : State} (h : s.opnd.opsel ≠ 8#4) : OnNext State.chunksInStep (runAwait s) := by
  have hopnd := opnd_of_paging (runPolls_paging s)
  show (if stillPolling (runPolls s) then suspend (runPolls s) else complete (runPolls s)).chunksInStep
  split
  · exact chunksInStep_of_opsel_ne (s := suspend (runPolls s)) (hopnd.symm ▸ h)
  · exact complete_chunksInStep _

theorem runRead_chunksInStep (s : State) : OnNext State.chunksInStep (runRead s) := by
  simp only [runRead]
  split
  · exact complete_chunksInStep _
  · trivial

theorem runStartWrite_chunksInStep (s : State) : OnNext State.chunksInStep (runStartWrite s) := by
  simp only [runStartWrite]
  split
  · split
    · exact complete_chunksInStep _
    · trivial
  · exact complete_chunksInStep _

theorem exec_request_chunksInStep {i : Instr} (hi : i.isRequest = true) {s : State} (h : s.chunksInStep) :
    OnNext State.chunksInStep (exec i s) := by
  have hrequest : ∀ {j : Instr} {operation : State → Host.Outcome State Fault Refusal},
      OnNext State.chunksInStep (operation (start (present j) s)) → OnNext State.chunksInStep (hostRequest j operation s) :=
    fun hop => hostRequest_onNext h (fun _ => hop) (complete_chunksInStep _)
  have hplain : ∀ op u, OnNext State.chunksInStep (runPlain op u) := fun op u => complete_chunksInStep _
  have hreserved : ∀ j, OnNext State.chunksInStep (reservedRequest j s) := by
    intro j
    unfold reservedRequest
    split
    · exact h
    · exact complete_chunksInStep _
  have hinit : OnNext State.chunksInStep (execInit s) := by
    unfold execInit
    split
    · exact h
    · exact complete_chunksInStep _
  cases i with
  | init => exact hinit
  | read dev offset length => exact hrequest (runRead_chunksInStep _)
  | startWrite dev offset length => exact hrequest (runStartWrite_chunksInStep _)
  | enableWrite dev => exact hrequest (hplain .enableWrite _)
  | disableWrite dev => exact hrequest (hplain .disableWrite _)
  | readStatus dev => exact hrequest (hplain .readStatus _)
  | writeStatus dev status => exact hrequest (hplain .writeStatus _)
  | awaitWriteComplete dev =>
    have hop : (7 : BitVec 4) ≠ 8#4 := by decide
    exact hrequest (runAwait_chunksInStep hop)
  | simpleWrite dev offset length => exact hrequest (runSimpleWrite_chunksInStep _)
  | reserved9 | reserved10 | reserved11 | reserved12 | reserved13 | reserved14 | reserved15 => exact hreserved _
  | _ => cases hi

/-! ## The step -/

section
variable {s : State} (h : s.chunksInStep)
include h

/-- The registers stand in every step inside a frame. -/
theorem FrameMove.chunksInStep {t : State} (g : FrameMove s t) (hframe : isFramePhase s.seq.phase = true) :
    t.chunksInStep := by
  have hfollows : s.followsChunks := by
    cases hp : s.seq.phase with
    | hdrFrame | cmdFrame | txFrame | rxFrame => exact h.followsChunks hp rfl (by decide)
    | _ => simp [hp, isFramePhase] at hframe
  exact (hfollows.congr g.paging).chunksInStep

theorem fsmStep_chunksInStep : OnNext State.chunksInStep (fsmStep s) := by
  by_cases hframe : isFramePhase s.seq.phase = true
  · rw [fsmStep_frame hframe]
    exact (frameQuarter_move s).imp fun _ ht => ht.chunksInStep h hframe
  · exact fsmStep_phase_chunksInStep h (by simpa using hframe)

theorem slotStep_chunksInStep (hframe : isFramePhase s.seq.phase = true) : OnNext State.chunksInStep (slotStep s) :=
  (slotStep_move s).imp fun _ ht => ht.chunksInStep h hframe

theorem engineStep_chunksInStep : OnNext State.chunksInStep (engineStep s) := by
  unfold engineStep
  split
  next hp =>
    have hheader : (startHeader s).followsChunks :=
      (h.followsChunks hp rfl (by decide)).congr (startHeader_frames s).paging
    exact hheader.nextFrame .cmdFrame 0
  next hp =>
    split
    · split
      next i hi =>
        refine (exec_wire_paging (fetchWire_not_request hi) s).andThen fun t ht => ?_
        exact (h.followsChunks hp rfl (by decide)).setPhase ht
      next => exact slotStep_chunksInStep h (by rw [hp]; rfl)
    · exact slotStep_chunksInStep h (by rw [hp]; rfl)
  next hp => exact slotStep_chunksInStep h (by rw [hp]; rfl)
  next hp => exact slotStep_chunksInStep h (by rw [hp]; rfl)
  next hp => exact slotStep_chunksInStep h (by rw [hp]; rfl)
  next => exact fsmStep_chunksInStep h

/-- The host writes the operand registers only while no operation is under way. -/
theorem hostMove_chunksInStep (m : HostMove) (hcontrolled : s.controlled) :
    OnNext State.chunksInStep (hostMove m s) := by
  have hidle : s.res.busy = false → pagedPhase s.seq.phase = false := by
    intro hbusy
    obtain ⟨-, hidle⟩ | hrun := hcontrolled.idle_or_underWay
    · rw [hidle]
      rfl
    · exact absurd hrun.busy (by simp [hbusy])
  cases m with
  | wait => exact engineStep_chunksInStep h
  | tick => exact fsmStep_chunksInStep h
  | start =>
    simp only [hostMove, hostStart]
    split
    · exact h
    · split
      next i hi => exact exec_request_chunksInStep (fetchRequest_isRequest hi) h
      next => trivial
  | startPulse =>
    simp only [hostMove, hostStartPulse]
    split
    · exact h
    · exact chunksInStep_of_unpaged rfl
  | writeReg r v => exact hostWrite_onNext fun hbusy => chunksInStep_of_unpaged (hidle hbusy)
  | writeIe v => exact hostWrite_onNext fun hbusy => chunksInStep_of_unpaged (hidle hbusy)
  | writeBuf i v =>
    simp only [hostMove]
    split
    · exact hostWrite_onNext fun hbusy => chunksInStep_of_unpaged (hidle hbusy)
    · trivial
  | rst => exact chunksInStep_of_unpaged rfl

end

/-- Settles O57: dispatch starts the count at 0 and `LENGTH`, a chunk is taken by the law, an advance moves it from `REM` to
`CUR_PTR`, and every other step of the operation leaves the registers of the loop alone. -/
theorem chunksKept : Obligations.ChunksKept := by
  intro s t hinv hstep
  replace hinv := popMove_inv hinv
  exact (hostMove_chunksInStep hinv.chunksInStep (nextMove s) hinv.controlled).of_eq hstep

end Sys2Proof.Machine

/-! PROOF. `simple_write` (44_paged_write.md R220 to R227): the sub-operations of a chunk, a whole chunk, the chunks that succeed one
after the other, and the one that ends the operation. Answers are those of a state `s₀`, from which `base` frames have led to
the state spoken of. -/

namespace Sys2Proof.Machine

/-! ## Stretches of a run -/

/-- `t` comes from `s` by `frames` frames with `shape` on the line; the host's side is as before. -/
structure Progress (shape : List MicroOp) (frames : Nat) (s t : State) : Prop where
  trace : traced s t shape
  env : t.env = s.env.after (20 * frames)
  host : t.host = s.host

/-- What the sub-operations of a chunk leave, one or more of them in a row (R220): the outcome in `OK`, the line driven high. -/
structure SubDone (success : Bool) (shape : List MicroOp) (frames : Nat) (s t : State) : Prop
    extends Progress shape frames s t where
  ok : t.seq.ok = success
  line : t.line = { dir := .output, lvl := true }
  savedIe : t.savedIe = s.host.ie

theorem Progress.refl (s : State) : Progress [] 0 s s := ⟨.of_trace_eq rfl, (Env.after_zero s.env).symm, rfl⟩

section
variable {shape shape' : List MicroOp} {frames frames' : Nat} {s t u : State}

theorem Progress.trans (h : Progress shape frames s t) (g : Progress shape' frames' t u) :
    Progress (shape ++ shape') (frames + frames') s u where
  trace := h.trace.trans g.trace
  env := by rw [g.env, h.env, Env.after_after, Nat.mul_add]
  host := g.host.trans h.host

/-- The next sub-operation, after one that succeeded. -/
theorem SubDone.trans {success : Bool} (h : SubDone true shape frames s t) (g : SubDone success shape' frames' t u) :
    SubDone success (shape ++ shape') (frames + frames') s u where
  toProgress := h.toProgress.trans g.toProgress
  ok := g.ok
  line := g.line
  savedIe := by rw [g.savedIe, h.host]

theorem Progress.env_after {s₀ : State} {base : Nat} (h : Progress shape frames s t)
    (henv : s.env = s₀.env.after (20 * base)) :
    t.env = s₀.env.after (20 * (base + frames)) := by
  rw [h.env, henv, Env.after_after, Nat.mul_add]

/-! The advance past a chunk puts nothing on the line. -/

theorem Progress.advance (h : Progress shape frames s t) : Progress shape frames s (advanceChunk t) :=
  ⟨h.trace, h.env, h.host⟩

theorem SubDone.advance {success : Bool} (h : SubDone success shape frames s t) :
    SubDone success shape frames s (advanceChunk t) :=
  ⟨h.toProgress.advance, h.ok, h.line, h.savedIe⟩

end

/-! ## The sub-operations of a chunk -/

section
variable {s₀ s : State} {base : Nat} (henv : s.env = s₀.env.after (20 * base))
include henv

/-- An operation that receives nothing, as a part of `simple_write`. -/
theorem enter_subDone {op : DevOp} {frames : List BusFrame} (hlead : leadOf op = .standby)
    (hdir : (descRow op s).pdir = .none ∨ (descRow op s).pdir = .tx)
    (hframes : commandFrames (enter op s).desc ++ payloadFrames (enter op s).desc s.host.buf = frames) (hne : frames ≠ []) :
    SubDone (allAcked s₀ (base + 1) frames.length)
      (sessionShape standbyShape s.host.ie (frames.take (framesRun s₀ (base + 1) frames.length)))
      (1 + framesRun s₀ (base + 1) frames.length) s (transaction (enter op s)) := by
  have hdone : TransactionDone frames (enter op s) (transaction (enter op s)) := transaction_done hframes hne
  obtain ⟨-, hhost⟩ := (openSession_open (enter op s)).keeps hdir
  rw [← transaction_eq] at hhost
  have hcount : framesRun (enter op s) 1 frames.length = framesRun s₀ (base + 1) frames.length :=
    framesRun_after (t := enter op s) henv 1 _
  have hopened : (enter op s).desc.lead = .standby := hlead
  have htrace := hdone.trace
  rw [hcount, hopened] at htrace
  exact
    { trace := htrace.congr rfl rfl
      env := by rw [hdone.env, hcount, enter_env]
      host := hhost
      ok := hdone.ok.trans (allAcked_after henv 1 _)
      line := hdone.line
      savedIe := hdone.savedIe }

/-- The completion poll, as a part of `simple_write`: `m` busy polls and the one that ends the loop (R206, R207). -/
theorem runPolls_subDone {m : Nat} (hscript : m = 0 ∨ 20 * (base + 4 * m) < s₀.env.script.length)
    (hbusy : ∀ j < m, allAcked s₀ (base + 4 * j + 1) 3 = true ∧ (byteAt s₀ (20 * (base + 4 * j + 3))).getLsbD 0 = true)
    (hend : allAcked s₀ (base + 4 * m + 1) 3 = false ∨ (byteAt s₀ (20 * (base + 4 * m + 3))).getLsbD 0 = false) :
    SubDone (allAcked s₀ (base + 4 * m + 1) 3)
      (standbyShape ++ (List.replicate m (pollShape s.host.ie s.opnd.devaddr)).flatten ++
        sessionShape gapShape s.host.ie ((rdsrFrames s.opnd.devaddr).take (framesRun s₀ (base + 4 * m + 1) 3)))
      (4 * m + 1 + framesRun s₀ (base + 4 * m + 1) 3) s (runPolls s) ∧
    stillPolling (runPolls s) = false ∧
    (allAcked s₀ (base + 4 * m + 1) 3 = true → (runPolls s).res.statusR = byteAt s₀ (20 * (base + 4 * m + 3))) := by
  have hacked : ∀ j, pollAcked (awaitOpen s) j = allAcked s₀ (base + 4 * j + 1) 3 := fun j =>
    allAcked_after (t := awaitOpen s) henv (4 * j + 1) 3
  have hstatus : ∀ j, pollStatus (awaitOpen s) j = byteAt s₀ (20 * (base + 4 * j + 3)) := by
    intro j
    rw [pollStatus, byteAt_after (t := awaitOpen s) henv, ← Nat.mul_add, Nat.add_assoc]
  have hcount : framesRun (awaitOpen s) (4 * m + 1) 3 = framesRun s₀ (base + 4 * m + 1) 3 :=
    framesRun_after (t := awaitOpen s) henv (4 * m + 1) 3
  have hleft : m = 0 ∨ 80 * m < (awaitOpen s).env.script.length := by
    have hlength : (awaitOpen s).env.script.length = s₀.env.script.length - 20 * base :=
      (congrArg (fun e : Env => e.script.length) henv).trans List.length_drop
    omega
  have hdone : PollsDone s.opnd.devaddr m (awaitOpen s) (runPolls s) :=
    pollLoop_done (d := s.desc) rfl (lt_pollFuel hleft) (fun j hj => by rw [hacked, hstatus]; exact hbusy j hj)
      (by rw [hacked, hstatus]; exact hend)
  have hpulse : traced s (awaitOpen s) standbyShape := ⟨standbyShape, rfl, rfl⟩
  have htrace := hpulse.trans hdone.trace
  rw [hcount, ← List.append_assoc] at htrace
  refine ⟨⟨⟨htrace, by rw [hdone.env, hcount]; rfl, hdone.host⟩, hdone.ok.trans (hacked m), hdone.line, hdone.savedIe⟩,
    hdone.ended, fun hlast => ?_⟩
  rw [hdone.statusR, statusAfterPolls, hcount, framesRun_of_allAcked hlast, if_pos rfl, hstatus]

end

/-! ## A whole chunk -/

/-- The chunk that begins here by the law (R221). -/
def State.nextChunk (s : State) : Chunk :=
  { addr := s.orch.curAddr, ptr := s.orch.curPtr.toNat, len := chunkLength s.orch.rem s.orch.curAddr }

/-- A chunk after its `enable_write`. -/
def chunkEnabled (s : State) : State := transaction (enter .enableWrite (takeChunk s))

/-- A chunk after its `start_write`. -/
def chunkWritten (s : State) : State := transaction (enter .startWrite (chunkEnabled s))

theorem chunkEnabled_paging (s : State) : (chunkEnabled s).paging = (takeChunk s).paging := transaction_enter_paging ..

theorem chunkEnabled_opnd (s : State) : (chunkEnabled s).opnd = s.opnd :=
  opnd_of_paging (s := takeChunk s) (chunkEnabled_paging s)

theorem chunkEnabled_orch (s : State) : (chunkEnabled s).orch = (takeChunk s).orch :=
  orch_of_paging (chunkEnabled_paging s)

theorem chunkWritten_opnd (s : State) : (chunkWritten s).opnd = s.opnd :=
  (opnd_of_paging (transaction_enter_paging .startWrite (chunkEnabled s))).trans (chunkEnabled_opnd s)

/-- Inside `simple_write` a write is of `CHUNK` bytes (45_sequencer_fsm.md R235). -/
theorem enter_startWrite_plen {s : State} (hop : s.opnd.opsel = 8#4) :
    (enter .startWrite s).desc.plen = s.orch.chunk.setWidth 16 :=
  if_pos hop

theorem chunk_plen {s : State} (hop : s.opnd.opsel = 8#4) :
    (enter .startWrite (chunkEnabled s)).desc.plen.toNat = s.nextChunk.len := by
  rw [enter_startWrite_plen (by rw [chunkEnabled_opnd, hop]), chunkEnabled_orch, BitVec.toNat_setWidth_of_le (by decide),
    takeChunk_toNat]
  rfl

theorem runChunk_eq (s : State) :
    runChunk s =
      if (chunkEnabled s).seq.ok then
        if fitsPage (enter .startWrite (chunkEnabled s)).orch.curAddr (enter .startWrite (chunkEnabled s)).desc.plen.toNat then
          if (chunkWritten s).seq.ok then runPolls (chunkWritten s) else chunkWritten s
        else raise .pageViolation (enter .startWrite (chunkEnabled s))
      else chunkEnabled s := by
  unfold runChunk chunkWritten chunkEnabled
  rfl

theorem runChunk_opnd (s : State) : (runChunk s).opnd = s.opnd := opnd_of_paging (s := takeChunk s) (runChunk_paging s)

theorem runChunk_of_enable_failed {s : State} (h : (chunkEnabled s).seq.ok = false) : runChunk s = chunkEnabled s := by
  rw [runChunk_eq, h, if_neg Bool.false_ne_true]

/-- The pre-check of a chunk's `start_write` passes by the chunk law (R221). -/
theorem runChunk_of_enabled {s : State} (hop : s.opnd.opsel = 8#4) (h : (chunkEnabled s).seq.ok = true) :
    runChunk s = if (chunkWritten s).seq.ok then runPolls (chunkWritten s) else chunkWritten s := by
  have hpage : fitsPage (enter .startWrite (chunkEnabled s)).orch.curAddr
      (enter .startWrite (chunkEnabled s)).desc.plen.toNat = true := by
    rw [chunk_plen hop, enter_orch, chunkEnabled_orch]
    exact fitsPage_chunkLength ..
  rw [runChunk_eq, if_pos h, if_pos hpage]

theorem length_chunkWriteFrames (dev : Byte) (m : Memory) (c : Chunk) : (chunkWriteFrames dev m c).length = 4 + c.len := by
  simp [chunkWriteFrames, writeFrames, length_sentRun, bufferBytes]

section
variable {s₀ s : State} {base : Nat} (henv : s.env = s₀.env.after (20 * base))
include henv

theorem chunkEnabled_subDone :
    SubDone (allAcked s₀ (base + 1) 2)
      (sessionShape standbyShape s.host.ie ((wrenFrames s.opnd.devaddr).take (framesRun s₀ (base + 1) 2)))
      (1 + framesRun s₀ (base + 1) 2) s (chunkEnabled s) := by
  have h := enter_subDone (s := takeChunk s) (op := .enableWrite) (frames := wrenFrames s.opnd.devaddr) henv rfl (.inl rfl) rfl
    (List.cons_ne_nil _ _)
  rw [chunkEnabled]
  exact ⟨⟨h.trace, h.env, h.host⟩, h.ok, h.line, h.savedIe⟩

variable (hop : s.opnd.opsel = 8#4) (henabled : allAcked s₀ (base + 1) 2 = true)
include hop henabled

theorem chunkWritten_subDone :
    SubDone (allAcked s₀ (base + 4) (4 + s.nextChunk.len))
      (enableShape s.host.ie s.opnd.devaddr ++ sessionShape standbyShape s.host.ie
        ((chunkWriteFrames s.opnd.devaddr s.host.buf s.nextChunk).take (framesRun s₀ (base + 4) (4 + s.nextChunk.len))))
      (3 + (1 + framesRun s₀ (base + 4) (4 + s.nextChunk.len))) s (chunkWritten s) := by
  have hfirst := chunkEnabled_subDone henv
  rw [henabled, framesRun_of_allAcked henabled] at hfirst
  have hframes : commandFrames (enter .startWrite (chunkEnabled s)).desc ++
      payloadFrames (enter .startWrite (chunkEnabled s)).desc (chunkEnabled s).host.buf =
        chunkWriteFrames s.opnd.devaddr s.host.buf s.nextChunk := by
    have hpayload : payloadFrames (enter .startWrite (chunkEnabled s)).desc (chunkEnabled s).host.buf =
        sentRun true (bufferBytes s.host.buf (chunkEnabled s).orch.curPtr.toNat s.nextChunk.len) := by
      rw [← chunk_plen hop, hfirst.host]
      rfl
    have hcommand : commandFrames (enter .startWrite (chunkEnabled s)).desc =
        sentRun false [(chunkEnabled s).opnd.devaddr, 0x6C#8, hiByte (chunkEnabled s).orch.curAddr,
          loByte (chunkEnabled s).orch.curAddr] := rfl
    rw [hpayload, hcommand, chunkEnabled_opnd, chunkEnabled_orch]
    rfl
  have hsecond := enter_subDone (op := .startWrite) (hfirst.env_after henv) rfl (.inr rfl) hframes (List.cons_ne_nil _ _)
  rw [length_chunkWriteFrames, hfirst.host] at hsecond
  exact hfirst.trans hsecond

variable (hwritten : allAcked s₀ (base + 4) (4 + s.nextChunk.len) = true)
include hwritten

/-- A chunk up to the poll that ends its loop. -/
theorem runChunk_subDone_of_written {m : Nat}
    (hscript : m = 0 ∨ 20 * (base + 8 + s.nextChunk.len + 4 * m) < s₀.env.script.length)
    (hbusy : ∀ j < m, allAcked s₀ (base + 8 + s.nextChunk.len + 4 * j + 1) 3 = true ∧
      (byteAt s₀ (20 * (base + 8 + s.nextChunk.len + 4 * j + 3))).getLsbD 0 = true)
    (hend : allAcked s₀ (base + 8 + s.nextChunk.len + 4 * m + 1) 3 = false ∨
      (byteAt s₀ (20 * (base + 8 + s.nextChunk.len + 4 * m + 3))).getLsbD 0 = false) :
    SubDone (allAcked s₀ (base + 8 + s.nextChunk.len + 4 * m + 1) 3)
      (enableShape s.host.ie s.opnd.devaddr ++
        sessionShape standbyShape s.host.ie (chunkWriteFrames s.opnd.devaddr s.host.buf s.nextChunk) ++
        (standbyShape ++ (List.replicate m (pollShape s.host.ie s.opnd.devaddr)).flatten ++
          sessionShape gapShape s.host.ie
            ((rdsrFrames s.opnd.devaddr).take (framesRun s₀ (base + 8 + s.nextChunk.len + 4 * m + 1) 3))))
      (8 + s.nextChunk.len + (4 * m + 1 + framesRun s₀ (base + 8 + s.nextChunk.len + 4 * m + 1) 3)) s (runChunk s) ∧
    stillPolling (runChunk s) = false ∧
    (allAcked s₀ (base + 8 + s.nextChunk.len + 4 * m + 1) 3 = true →
      (runChunk s).res.statusR = byteAt s₀ (20 * (base + 8 + s.nextChunk.len + 4 * m + 3))) := by
  have hfirst := chunkWritten_subDone henv hop henabled
  have hcount : 3 + (1 + (4 + s.nextChunk.len)) = 8 + s.nextChunk.len := by omega
  rw [hwritten, framesRun_of_allAcked hwritten, hcount, ← length_chunkWriteFrames s.opnd.devaddr s.host.buf, List.take_length]
    at hfirst
  have hrun : runChunk s = runPolls (chunkWritten s) := by
    rw [runChunk_of_enabled hop ((chunkEnabled_subDone henv).ok.trans henabled), hfirst.ok, if_pos rfl]
  have henv' := hfirst.env_after henv
  rw [← Nat.add_assoc] at henv'
  obtain ⟨hpolls, hended, hstatus⟩ := runPolls_subDone henv' hscript hbusy hend
  rw [chunkWritten_opnd, hfirst.host] at hpolls
  rw [hrun]
  exact ⟨hfirst.trans hpolls, hended, hstatus⟩

end

/-- A chunk whose polls come to one that reports no write in progress is done (R220). -/
theorem runChunk_succeeds {s₀ s : State} {base m : Nat} (henv : s.env = s₀.env.after (20 * base)) (hop : s.opnd.opsel = 8#4)
    (hans : chunkAnswered s₀ base (s.nextChunk, m)) :
    SubDone true (chunkShape s.host.ie s.opnd.devaddr s.host.buf (s.nextChunk, m)) (chunkFrames (s.nextChunk, m)) s
      (runChunk s) ∧
    wip (runChunk s) = false ∧
    (runChunk s).res.statusR = byteAt s₀ (20 * (base + chunkFrames (s.nextChunk, m) - 1)) := by
  obtain ⟨henabled, hwritten, hacked, hbusy, hidle, hscript⟩ := hans
  have hlast : allAcked s₀ (base + 8 + s.nextChunk.len + 4 * m + 1) 3 = true := hacked m le_rfl
  obtain ⟨hdone, hended, hstatus⟩ := runChunk_subDone_of_written henv hop henabled hwritten hscript
    (fun j hj => ⟨hacked j hj.le, hbusy j hj⟩) (.inr hidle)
  have hshape : enableShape s.host.ie s.opnd.devaddr ++
      sessionShape standbyShape s.host.ie (chunkWriteFrames s.opnd.devaddr s.host.buf s.nextChunk) ++
      (standbyShape ++ (List.replicate m (pollShape s.host.ie s.opnd.devaddr)).flatten ++ pollShape s.host.ie s.opnd.devaddr) =
        chunkShape s.host.ie s.opnd.devaddr s.host.buf (s.nextChunk, m) := by
    simp only [chunkShape, List.replicate_succ', List.flatten_append, List.flatten_singleton, List.append_assoc]
  have hframes : 8 + s.nextChunk.len + (4 * m + 1 + 3) = chunkFrames (s.nextChunk, m) := by
    simp only [chunkFrames]
    omega
  have hfinal : base + 8 + s.nextChunk.len + 4 * m + 3 = base + chunkFrames (s.nextChunk, m) - 1 := by
    simp only [chunkFrames]
    omega
  rw [hlast, framesRun_of_allAcked hlast, hframes] at hdone
  rw [stillPolling, hdone.ok, Bool.true_and] at hended
  rw [hfinal] at hstatus
  exact ⟨hshape ▸ hdone, hended, hstatus hlast⟩

/-! ## The chunk loop -/

/-- At the head of the chunk loop of `simple_write`, with the chunks `rest` to go and fuel for them all. -/
structure State.hasLeft (rest : List Chunk) (fuel : Nat) (s : State) : Prop where
  opsel : s.opnd.opsel = 8#4
  between : s.betweenChunks
  enough : s.orch.rem.toNat ≤ fuel
  chunks : chunksFrom fuel s.orch.curAddr s.orch.curPtr.toNat s.orch.rem = rest

theorem State.hasLeft.rem_eq_zero {fuel : Nat} {s : State} (h : s.hasLeft [] fuel) : s.orch.rem = 0 := by
  have hsum := sum_len_chunksFrom (addr := s.orch.curAddr) s.orch.curPtr.toNat h.enough
  rw [h.chunks] at hsum
  exact BitVec.eq_of_toNat_eq hsum.symm

section
variable {c : Chunk} {rest : List Chunk} {fuel : Nat} {s : State} (h : s.hasLeft (c :: rest) fuel)
include h

theorem State.hasLeft.rem_ne_zero : s.orch.rem ≠ 0 := by
  intro hzero
  have hchunks := h.chunks
  rw [hzero, chunksFrom_zero_rem] at hchunks
  cases hchunks

theorem State.hasLeft.runChunk_insideChunk : (runChunk s).insideChunk :=
  (h.between.takeChunk h.rem_ne_zero).congr (runChunk_paging s)

/-- With a chunk to go, it is the one that the law gives, and an advance past it leaves the others. -/
theorem State.hasLeft.cons :
    s.nextChunk = c ∧ ∃ left, fuel = left + 1 ∧ (advanceChunk (runChunk s)).hasLeft rest left := by
  have hrem := h.rem_ne_zero
  have hinside := h.runChunk_insideChunk
  obtain ⟨hop, -, henough, hchunks⟩ := h
  obtain ⟨left, rfl⟩ := Nat.exists_eq_succ_of_ne_zero ((BitVec.toNat_pos_of_ne_zero hrem).trans_le henough).ne'
  rw [chunksFrom_succ hrem] at hchunks
  obtain ⟨hhead, htail⟩ := List.cons.inj hchunks
  have horch := hinside.advance
  have hptr := hinside.advance_curPtr
  rw [orch_of_paging (runChunk_paging s)] at horch hptr
  refine ⟨hhead, left, rfl, ?_⟩
  exact
    { opsel := by rw [advanceChunk_opnd, runChunk_opnd, hop]
      between := hinside.advanceChunk
      enough := by
        rw [horch]
        exact rem_sub_chunk_le hrem s.orch.curAddr henough
      chunks := by
        rw [hptr, horch]
        exact htail }

end

theorem chunkLoop_fails {s : State} (hrem : s.orch.rem ≠ 0) (hok : (runChunk s).seq.ok = false) (fuel : Nat) :
    chunkLoop (fuel + 1) s = complete (runChunk s) := by
  simp only [chunkLoop, hrem, hok, if_false, Bool.not_false, if_true]

theorem chunkLoop_goes_on {s : State} (hrem : s.orch.rem ≠ 0) (hok : (runChunk s).seq.ok = true)
    (hwip : wip (runChunk s) = false) (fuel : Nat) : chunkLoop (fuel + 1) s = chunkLoop fuel (advanceChunk (runChunk s)) := by
  simp only [chunkLoop, hrem, hok, hwip, if_false, Bool.not_true, Bool.false_eq_true]

theorem chunkLoop_ends {s : State} (hrem : s.orch.rem = 0) (fuel : Nat) : chunkLoop fuel s = complete s := by
  cases fuel with
  | zero => rfl
  | succ fuel => exact if_pos hrem

/-- Past chunks that succeed the loop stands at the next one (R220). -/
theorem chunkLoop_reaches {s₀ s : State} {base fuel : Nat} {cs : List Polled} {rest : List Chunk}
    (henv : s.env = s₀.env.after (20 * base)) (h : s.hasLeft (cs.map Prod.fst ++ rest) fuel)
    (hans : chunksAnswered s₀ base cs) :
    ∃ left t, chunkLoop (fuel + 1) s = chunkLoop (left + 1) t ∧ t.hasLeft rest left ∧ t.opnd = s.opnd ∧
      Progress (cs.flatMap (chunkShape s.host.ie s.opnd.devaddr s.host.buf)) (framesOf cs) s t := by
  induction cs generalizing s base fuel with
  | nil => exact ⟨fuel, s, rfl, h, rfl, .refl s⟩
  | cons c cs ih =>
    obtain ⟨c, m⟩ := c
    obtain ⟨hchunk, hlater⟩ := hans
    have hrem := h.rem_ne_zero
    obtain ⟨rfl, left, rfl, hnext⟩ := h.cons
    obtain ⟨hdone, hwip, -⟩ := runChunk_succeeds henv h.opsel hchunk
    have hadvanced := hdone.toProgress.advance
    obtain ⟨left', t, hloop, hleft, htopnd, hprogress⟩ := ih (hadvanced.env_after henv) hnext hlater
    rw [advanceChunk_opnd, runChunk_opnd] at htopnd hprogress
    rw [advanceChunk_host, hdone.host] at hprogress
    exact ⟨left', t, (chunkLoop_goes_on hrem hdone.ok hwip _).trans hloop, hleft, htopnd, hadvanced.trans hprogress⟩

/-! ## The request -/

/-- `simple_write` before its first chunk: the request presented, the loop's registers loaded (R220). -/
def enteredPaged (dev : Byte) (offset length : Half) (s : State) : State :=
  loadPagedOperands (start (present (.simpleWrite dev offset length)) s)

/-- `simple_write` as its loop comes to a chunk `c`, the chunks `cs` before it done. -/
structure ChunkReached (dev : Byte) (offset length : Half) (cs : List Polled) (c : Chunk) (later : List Chunk) (left : Nat)
    (s t : State) : Prop where
  runs : execSimpleWrite dev offset length s = .next (chunkLoop (left + 1) t)
  left : t.hasLeft (c :: later) left
  opnd : t.opnd = { s.opnd with opsel := 8#4, devaddr := dev, offset := offset, length := length }
  done : Progress (cs.flatMap (chunkShape s.host.ie dev s.host.buf)) (framesOf cs) s t

section
variable {dev : Byte} {offset length : Half} {s : State} (hfits : length.toNat ≤ s.host.bufSize)
include hfits

theorem enteredPaged_hasLeft : (enteredPaged dev offset length s).hasLeft (chunksOf offset length) length.toNat :=
  ⟨rfl, loadPagedOperands_betweenChunks hfits, le_rfl, rfl⟩

variable (hready : s.ready)
include hready

theorem execSimpleWrite_fits :
    execSimpleWrite dev offset length s = .next (chunkLoop (length.toNat + 1) (enteredPaged dev offset length s)) :=
  (hostRequest_ready hready _ _).trans (if_pos hfits)

theorem chunkReached {cs : List Polled} {c : Chunk} {later : List Chunk}
    (hcs : cs.map Prod.fst ++ c :: later = chunksOf offset length) (hans : chunksAnswered s 0 cs) :
    ∃ left t, ChunkReached dev offset length cs c later left s t := by
  have hentered := enteredPaged_hasLeft (dev := dev) (offset := offset) hfits
  rw [← hcs] at hentered
  have henv : (enteredPaged dev offset length s).env = s.env.after (20 * 0) := (Env.after_zero s.env).symm
  obtain ⟨left, t, hloop, hleft, hopnd, hprogress⟩ := chunkLoop_reaches henv hentered hans
  exact ⟨left, t, (execSimpleWrite_fits hfits hready).trans (congrArg Host.Outcome.next hloop), hleft, hopnd,
    hprogress.trace.congr rfl rfl, hprogress.env, hprogress.host⟩

end

section
variable {dev : Byte} {offset length : Half} {cs : List Polled} {c : Chunk} {later : List Chunk} {left : Nat} {s t : State}

/-- The chunk reached is the one that the law gives. -/
theorem ChunkReached.nextChunk_eq (h : ChunkReached dev offset length cs c later left s t) : t.nextChunk = c := by
  obtain ⟨hchunk, -⟩ := h.left.cons
  exact hchunk

theorem ChunkReached.devaddr_eq (h : ChunkReached dev offset length cs c later left s t) : t.opnd.devaddr = dev :=
  congrArg OperandRegs.devaddr h.opnd

/-- The operation completes with the chunk, and the orchestrator stands at `stop` (R224). -/
theorem ChunkReached.pagedDone (h : ChunkReached dev offset length cs c later left s t) (hready : s.ready) {success : Bool}
    {shape whole : List MicroOp} {frames total : Nat} {stop : Half × Nat} {v : State} (hsub : SubDone success shape frames t v)
    (hlast : chunkLoop (left + 1) t = complete v) (hopnd : v.opnd = t.opnd)
    (hstop : v.orch.curAddr = stop.1 ∧ v.orch.curPtr.toNat = stop.2 ∧ v.orch.rem.toNat + stop.2 = length.toNat)
    (hwhole : cs.flatMap (chunkShape s.host.ie dev s.host.buf) ++ shape = whole) (htotal : framesOf cs + frames = total) :
    ∃ w, exec (.simpleWrite dev offset length) s = .next w ∧ PagedDone dev offset length success stop whole total s w ∧
      w.res.statusR = v.res.statusR := by
  have hexec : exec (.simpleWrite dev offset length) s = .next (complete v) := h.runs.trans (congrArg Host.Outcome.next hlast)
  have hgoes := (exec_goesOn (.simpleWrite dev offset length) s).of_eq hexec
  have hdone := h.done.trans hsub.toProgress
  rw [hwhole, htotal] at hdone
  obtain ⟨-, hinited⟩ := hready
  exact ⟨_, hexec,
    { finished := ⟨hsub.ok, rfl, rfl, rfl, hsub.ok⟩
      trace := hdone.trace
      env := hdone.env
      opnd := hopnd.trans h.opnd
      orch := hstop
      line := hsub.line
      savedIe := by rw [complete_savedIe, hsub.savedIe, h.done.host]
      host := hdone.host
      inited := (hgoes.inited hinited).trans hinited.symm }, rfl⟩

/-- A chunk that fails ends the operation where it stands (R220, R224). -/
theorem ChunkReached.fails (h : ChunkReached dev offset length cs c later left s t) (hready : s.ready)
    {shape whole : List MicroOp} {frames total : Nat} (hsub : SubDone false shape frames t (runChunk t))
    (hwhole : cs.flatMap (chunkShape s.host.ie dev s.host.buf) ++ shape = whole) (htotal : framesOf cs + frames = total) :
    ∃ w, exec (.simpleWrite dev offset length) s = .next w ∧
      PagedDone dev offset length false (c.addr, c.ptr) whole total s w := by
  have hinside := h.left.runChunk_insideChunk
  have hlength : (runChunk t).opnd.length = length := by rw [runChunk_opnd, h.opnd]
  have hcounted := hinside.counted
  have hptr : (runChunk t).orch.curPtr.toNat = c.ptr := by
    rw [orch_of_paging (runChunk_paging t), ← h.nextChunk_eq]
    rfl
  have haddr : (runChunk t).orch.curAddr = c.addr := by
    rw [orch_of_paging (runChunk_paging t), ← h.nextChunk_eq]
    rfl
  rw [hlength, hptr, Nat.add_comm] at hcounted
  obtain ⟨w, hexec, hdone, -⟩ := h.pagedDone hready (stop := (c.addr, c.ptr)) hsub
    (chunkLoop_fails h.left.rem_ne_zero hsub.ok left) (runChunk_opnd t) ⟨haddr, hptr, hcounted⟩ hwhole htotal
  exact ⟨w, hexec, hdone⟩

/-! The sub-operation of a chunk that fails: its session stops at the first frame without acknowledgment (R202, R224). -/

theorem ChunkReached.enable_fails (h : ChunkReached dev offset length cs c later left s t) (hready : s.ready)
    (hfails : allAcked s (framesOf cs + 1) 2 = false) :
    ∃ w, exec (.simpleWrite dev offset length) s = .next w ∧
      PagedDone dev offset length false (c.addr, c.ptr)
        (cs.flatMap (chunkShape s.host.ie dev s.host.buf) ++
          sessionShape standbyShape s.host.ie ((wrenFrames dev).take (framesRun s (framesOf cs + 1) 2)))
        (framesOf cs + 1 + framesRun s (framesOf cs + 1) 2) s w := by
  have hsub := chunkEnabled_subDone h.done.env
  rw [hfails, h.done.host, h.devaddr_eq] at hsub
  rw [← runChunk_of_enable_failed hsub.ok] at hsub
  exact h.fails hready hsub rfl (Nat.add_assoc ..).symm

theorem ChunkReached.write_fails (h : ChunkReached dev offset length cs c later left s t) (hready : s.ready)
    (henabled : allAcked s (framesOf cs + 1) 2 = true) (hfails : allAcked s (framesOf cs + 4) (4 + c.len) = false) :
    ∃ w, exec (.simpleWrite dev offset length) s = .next w ∧
      PagedDone dev offset length false (c.addr, c.ptr)
        (cs.flatMap (chunkShape s.host.ie dev s.host.buf) ++ enableShape s.host.ie dev ++
          sessionShape standbyShape s.host.ie
            ((chunkWriteFrames dev s.host.buf c).take (framesRun s (framesOf cs + 4) (4 + c.len))))
        (framesOf cs + 4 + framesRun s (framesOf cs + 4) (4 + c.len)) s w := by
  have hsub := chunkWritten_subDone h.done.env h.left.opsel henabled
  rw [h.nextChunk_eq, hfails, h.done.host, h.devaddr_eq] at hsub
  have hrun : runChunk t = chunkWritten t := by
    rw [runChunk_of_enabled h.left.opsel ((chunkEnabled_subDone h.done.env).ok.trans henabled), hsub.ok,
      if_neg Bool.false_ne_true]
  rw [← hrun] at hsub
  exact h.fails hready hsub (List.append_assoc ..).symm (by omega)

theorem ChunkReached.poll_fails (h : ChunkReached dev offset length cs c later left s t) (hready : s.ready) {m : Nat}
    (henabled : allAcked s (framesOf cs + 1) 2 = true) (hwritten : allAcked s (framesOf cs + 4) (4 + c.len) = true)
    (hbusy : ∀ j < m, allAcked s (framesOf cs + 8 + c.len + 4 * j + 1) 3 = true ∧
      (byteAt s (20 * (framesOf cs + 8 + c.len + 4 * j + 3))).getLsbD 0 = true)
    (hscript : m = 0 ∨ 20 * (framesOf cs + 8 + c.len + 4 * m) < s.env.script.length)
    (hfails : allAcked s (framesOf cs + 8 + c.len + 4 * m + 1) 3 = false) :
    ∃ w, exec (.simpleWrite dev offset length) s = .next w ∧
      PagedDone dev offset length false (c.addr, c.ptr)
        (cs.flatMap (chunkShape s.host.ie dev s.host.buf) ++ enableShape s.host.ie dev ++
          sessionShape standbyShape s.host.ie (chunkWriteFrames dev s.host.buf c) ++ standbyShape ++
          (List.replicate m (pollShape s.host.ie dev)).flatten ++
          sessionShape gapShape s.host.ie
            ((rdsrFrames dev).take (framesRun s (framesOf cs + 8 + c.len + 4 * m + 1) 3)))
        (framesOf cs + 8 + c.len + 4 * m + 1 + framesRun s (framesOf cs + 8 + c.len + 4 * m + 1) 3) s w := by
  obtain rfl := h.nextChunk_eq
  obtain ⟨hsub, -, -⟩ := runChunk_subDone_of_written h.done.env h.left.opsel henabled hwritten hscript hbusy (.inl hfails)
  rw [hfails, h.done.host, h.devaddr_eq] at hsub
  exact h.fails hready hsub (by simp only [List.append_assoc]) (by omega)

/-- Past the last chunk the whole write is done, `CUR_ADDR` modulo 2^16 (R226). -/
theorem ChunkReached.stop_after_last (h : ChunkReached dev offset length cs c [] left s t)
    (hc : c ∈ chunksOf offset length) :
    (advanceChunk (runChunk t)).orch.curAddr = offset + length ∧
    (advanceChunk (runChunk t)).orch.curPtr.toNat = length.toNat ∧
    (advanceChunk (runChunk t)).orch.rem.toNat + length.toNat = length.toNat := by
  obtain ⟨hchunk, n, -, hnone⟩ := h.left.cons
  have hinside := h.left.runChunk_insideChunk
  have hrem : (advanceChunk (runChunk t)).orch.rem.toNat = 0 := congrArg BitVec.toNat hnone.rem_eq_zero
  have hlength : (advanceChunk (runChunk t)).opnd.length = length := by rw [advanceChunk_opnd, runChunk_opnd, h.opnd]
  have hcounted := hnone.between.counted
  rw [hrem, hlength, Nat.add_zero] at hcounted
  have hptr : (advanceChunk (runChunk t)).orch.curPtr.toNat = c.ptr + c.len := by
    rw [hinside.advance_curPtr, orch_of_paging (runChunk_paging t), ← hchunk]
    rfl
  have haddr : (advanceChunk (runChunk t)).orch.curAddr = c.addr + BitVec.ofNat 16 c.len := by
    rw [hinside.advance, orch_of_paging (runChunk_paging t), ← hchunk]
    rfl
  refine ⟨?_, hcounted, by rw [hrem, Nat.zero_add]⟩
  rw [haddr, (chunksOf_inside hc).addr, BitVec.add_assoc, ← BitVec.ofNat_add, Nat.sub_zero, ← hptr, hcounted,
    BitVec.ofNat_toNat, BitVec.setWidth_eq]

/-- The last chunk succeeds: the operation has written every chunk in turn (R220, R223). -/
theorem ChunkReached.succeeds (h : ChunkReached dev offset length cs c [] left s t) (hready : s.ready) {m : Nat}
    (hc : c ∈ chunksOf offset length) (hans : chunkAnswered s (framesOf cs) (c, m)) :
    ∃ w, exec (.simpleWrite dev offset length) s = .next w ∧
      PagedDone dev offset length true (offset + length, length.toNat)
        ((cs ++ [(c, m)]).flatMap (chunkShape s.host.ie dev s.host.buf)) (framesOf (cs ++ [(c, m)])) s w ∧
      w.res.statusR = byteAt s (20 * (framesOf (cs ++ [(c, m)]) - 1)) := by
  have hstop := h.stop_after_last hc
  obtain ⟨rfl, n, -, hnone⟩ := h.left.cons
  obtain ⟨hsub, hwip, hstatus⟩ := runChunk_succeeds h.done.env h.left.opsel hans
  have hloop : chunkLoop (left + 1) t = complete (advanceChunk (runChunk t)) :=
    (chunkLoop_goes_on h.left.rem_ne_zero hsub.ok hwip left).trans (chunkLoop_ends hnone.rem_eq_zero left)
  have hopnd : (advanceChunk (runChunk t)).opnd = t.opnd := by rw [advanceChunk_opnd, runChunk_opnd]
  have hshape : cs.flatMap (chunkShape s.host.ie dev s.host.buf) ++ chunkShape s.host.ie dev s.host.buf (t.nextChunk, m) =
      (cs ++ [(t.nextChunk, m)]).flatMap (chunkShape s.host.ie dev s.host.buf) := by
    rw [List.flatMap_append, List.flatMap_singleton]
  have hframes : framesOf cs + chunkFrames (t.nextChunk, m) = framesOf (cs ++ [(t.nextChunk, m)]) := by
    simp [framesOf]
  rw [h.done.host, h.devaddr_eq] at hsub
  rw [hframes] at hstatus
  obtain ⟨w, hexec, hdone, hstatusR⟩ := h.pagedDone hready (stop := (offset + length, length.toNat)) hsub.advance hloop hopnd
    hstop hshape hframes
  rw [advanceChunk_res] at hstatusR
  exact ⟨w, hexec, hdone, hstatusR.trans hstatus⟩

end

/-! ## The obligations -/

/-- Settles O46: the loop completes before its first chunk. -/
theorem simpleWriteEmpty : Obligations.SimpleWriteEmpty := by
  intro dev offset s hready
  exact (execSimpleWrite_fits (Nat.zero_le _) hready).trans
    (congrArg Host.Outcome.next (chunkLoop_ends (s := enteredPaged dev offset 0 s) rfl 1))

theorem chunksAnswered_concat (s : State) (base : Nat) (cs : List Polled) (c : Polled) :
    chunksAnswered s base (cs ++ [c]) ↔ chunksAnswered s base cs ∧ chunkAnswered s (base + framesOf cs) c := by
  induction cs generalizing base with
  | nil => exact ⟨fun h => ⟨trivial, h.1⟩, fun h => ⟨h.2, trivial⟩⟩
  | cons d cs ih =>
    have hframes : base + framesOf (d :: cs) = base + chunkFrames d + framesOf cs := (Nat.add_assoc ..).symm
    rw [List.cons_append, chunksAnswered, chunksAnswered, ih, and_assoc, hframes]

/-- Settles O47: the chunks but the last lead to the last, which succeeds and leaves nothing to do. -/
theorem simpleWriteSucceeds : Obligations.SimpleWriteSucceeds := by
  intro dev offset length cs s hready hfits hlength hcs hans
  obtain rfl | ⟨cs, ⟨c, m⟩, rfl⟩ := List.eq_nil_or_concat' cs
  · have hsum : ((chunksOf offset length).map Chunk.len).sum = length.toNat := sum_len_chunksFrom 0 le_rfl
    rw [← hcs] at hsum
    exact absurd (BitVec.eq_of_toNat_eq hsum.symm) hlength
  · obtain ⟨hbefore, hlast⟩ := (chunksAnswered_concat s 0 cs (c, m)).1 hans
    rw [Nat.zero_add] at hlast
    rw [List.map_append] at hcs
    obtain ⟨left, t, h⟩ : ∃ left t, ChunkReached dev offset length cs c [] left s t := chunkReached hfits hready hcs hbefore
    exact h.succeeds hready (hcs ▸ List.mem_append_right _ (List.mem_singleton_self c)) hlast

/-- Settles O48: the chunks before lead to the failing one, whose sub-operations run up to the one that fails. -/
theorem simpleWriteFails : Obligations.SimpleWriteFails := by
  intro dev offset length cs ⟨c, m⟩ later s hready hfits hcs hans
  obtain ⟨left, t, h⟩ : ∃ left t, ChunkReached dev offset length cs c later left s t := chunkReached hfits hready hcs hans
  exact ⟨h.enable_fails hready, h.write_fails hready, h.poll_fails hready⟩

end Sys2Proof.Machine

/-! PROOF. The sequencer inside a frame (45_sequencer_fsm.md R230, R246, R256): it walks a slot by its quarters and a frame by its
slots. Every state on the way is the procedure's with a phase of its own: `setPhase p s` where the procedure is at `s`. -/

namespace Sys2Proof.Machine

/-! ## Walks -/

/-- One or more steps of the sequencer lead from `s` to the outcome `o`. -/
def Walks (s : State) (o : Host.Outcome State Fault Refusal) : Prop := ∃ k, 1 ≤ k ∧ fsmRun k s = o

theorem fsmRun_add (m n : Nat) (s : State) : fsmRun (m + n) s = andThen (fsmRun m s) (fsmRun n) := by
  induction m generalizing s with
  | zero => rw [Nat.zero_add]; rfl
  | succ m ih =>
    rw [Nat.succ_add, fsmRun, fsmRun]
    cases fsmStep s with
    | next t => exact ih t
    | fault r => rfl
    | refused r => rfl

section
variable {s t : State} {o : Host.Outcome State Fault Refusal}

theorem Walks.of_step (h : fsmStep s = o) : Walks s o := by
  refine ⟨1, le_rfl, ?_⟩
  rw [fsmRun, h]
  cases o <;> rfl

theorem Walks.trans (h : Walks s (.next t)) (g : Walks t o) : Walks s o := by
  obtain ⟨m, hm, hs⟩ := h
  obtain ⟨n, -, ht⟩ := g
  refine ⟨m + n, hm.trans (Nat.le_add_right m n), ?_⟩
  rw [fsmRun_add, hs]
  exact ht

end

/-! ## Slots -/

/-- A slot after the frame's loads: what precedes it, the slot, what follows it (R246). -/
def slotRun (s : State) : State := slotAfter (exchangeBit (slotInput s) (slotBefore s))

theorem slotStep_of_slotStart {s : State} (h : s.slotE.qtr = 0) :
    slotStep s = andThen (frameStart s) fun t =>
      andThen (exec (if slotInput t then .bit1 else .bit0) (slotBefore t)) fun u => .next (slotAfter u) := by
  have hstart : atSlotStart s = true := by rw [atSlotStart, h]; rfl
  rw [slotStep, if_pos hstart]
  simp only [decode_slotCode]

theorem slotStep_inside {s : State} (h : s.slotE.qtr ≠ 0) : slotStep s = frameQuarter s := by
  have hinside : ¬ atSlotStart s = true := by simpa [atSlotStart] using h
  rw [slotStep, if_neg hinside]

theorem engineStep_slot {s : State} (hframe : isFramePhase s.seq.phase = true)
    (hother : s.seq.phase = .cmdFrame → atCommandStart s = true → fetchWire s = none) : engineStep s = slotStep s := by
  unfold engineStep
  cases hp : s.seq.phase with
  | hdrFrame | txFrame | rxFrame => rfl
  | cmdFrame =>
    by_cases hstart : atCommandStart s = true
    · simp only [hstart, if_true, hother hp hstart]
    · simp only [hstart, if_false, Bool.false_eq_true]
  | _ => rw [hp] at hframe; cases hframe

/-- Settles O8: the engine fetches the command at its first frame and the header at its hold, and elsewhere the slot. -/
theorem stepRunsWireInstruction : Obligations.StepRunsWireInstruction := by
  intro s hwait
  rw [step_wait hwait]
  refine ⟨fun i hphase hstart hi => engineStep_command hphase hstart hi, fun hphase => ?header,
    fun hframe hqtr hother => ?slot⟩
  case header => simp only [engineStep, popMove_seq, hphase]
  case slot =>
    rw [← slotStep_of_slotStart (s := popMove s) hqtr]
    exact engineStep_slot (s := popMove s) hframe hother

/-! A slot by its quarters (R152). -/

theorem frameStart_inside {s : State} (h : s.slotE.qtr ≠ 0) : frameStart s = .next s := by
  have hinside : ¬ atFrameStart s = true := by simp [atFrameStart, h]
  rw [frameStart, if_neg hinside]

theorem frameQuarter_inside {s : State} (h : s.slotE.qtr ≠ 0) :
    frameQuarter s = .next (if s.slotE.qtr = 3 then slotAfter (quarter (slotInput s) s.slotE.qtr s)
      else quarter (slotInput s) s.slotE.qtr s) := by
  have hinside : ¬ atSlotStart s = true := by simpa [atSlotStart] using h
  rw [frameQuarter, frameStart_inside h]
  simp only [andThen, if_neg hinside]

theorem frameQuarter_first {s t : State} (hstart : frameStart s = .next t) (hqtr : t.slotE.qtr = 0) :
    frameQuarter s = .next (quarter (slotInput t) 0 (slotBefore t)) := by
  have hfirst : atSlotStart t = true := by rw [atSlotStart, hqtr]; rfl
  have hbefore : (slotBefore t).slotE.qtr = 0 := by
    unfold slotBefore
    split
    · exact hqtr
    · split <;> exact hqtr
  have hinput : slotInput (slotBefore t) = slotInput t := slotInput_congr (slotBefore_frame t) (slotBefore_frames t).seq
  have hmore : ¬ (0 : Fin 4) = 3 := by decide
  rw [frameQuarter, hstart]
  simp only [andThen, if_pos hfirst, hbefore, hinput, if_neg hmore]

/-- The four quarters of a slot (R152, R246). -/
theorem slot_walks {s t : State} (hframe : isFramePhase s.seq.phase = true) (hqtr : s.slotE.qtr = 0)
    (hstart : frameStart s = .next t) : Walks s (.next (slotRun t)) := by
  have ht : t.seq = s.seq ∧ t.slotE.qtr = 0 := by
    obtain rfl | ⟨-, b, m, rfl⟩ := (frameStart_loads s).of_eq hstart
    · exact ⟨rfl, hqtr⟩
    · exact ⟨rfl, hqtr⟩
  obtain ⟨hseq, htqtr⟩ := ht
  have hphase : isFramePhase (slotBefore t).seq.phase = true := by rw [(slotBefore_frames t).seq, hseq]; exact hframe
  have hinput : slotInput (slotBefore t) = slotInput t := slotInput_congr (slotBefore_frame t) (slotBefore_frames t).seq
  have hfirst := frameQuarter_first hstart htqtr
  rw [slotRun]
  rw [← hinput] at hfirst ⊢
  generalize slotBefore t = u at *
  have hnext : ∀ v q, v.seq = u.seq → v.frame = u.frame → v.slotE.qtr = q → q ≠ 0 → fsmStep v =
      .next (if q = 3 then slotAfter (quarter (slotInput u) q v) else quarter (slotInput u) q v) := by
    rintro v q hv hvframe rfl hq
    rw [fsmStep_frame (by rw [hv]; exact hphase), frameQuarter_inside hq, slotInput_congr hvframe hv]
  have hone := Walks.of_step ((fsmStep_frame hframe).trans hfirst)
  have htwo := Walks.of_step (hnext (quarter (slotInput u) 0 u) 1 rfl rfl rfl (by decide))
  have hthree := Walks.of_step (hnext (quarter (slotInput u) 1 (quarter (slotInput u) 0 u)) 2 rfl rfl rfl (by decide))
  have hfour := Walks.of_step
    (hnext (quarter (slotInput u) 2 (quarter (slotInput u) 1 (quarter (slotInput u) 0 u))) 3 rfl rfl rfl (by decide))
  exact hone.trans (htwo.trans (hthree.trans hfour))

/-- Whatever the engine does with a slot, or inside one, are steps of the sequencer. -/
theorem slotStep_walks {s : State} (hframe : isFramePhase s.seq.phase = true) : Walks s (slotStep s) := by
  by_cases hqtr : s.slotE.qtr = 0
  · have hslot : slotStep s = andThen (frameStart s) fun t => .next (slotRun t) := by
      rw [slotStep_of_slotStart hqtr]
      simp only [exec_slot]
      rfl
    rw [hslot]
    cases hstart : frameStart s with
    | next t => exact slot_walks hframe hqtr hstart
    | fault r => exact .of_step (by rw [fsmStep_frame hframe, frameQuarter, hstart]; rfl)
    | refused r => exact .of_step (by rw [fsmStep_frame hframe, frameQuarter, hstart]; rfl)
  · exact .of_step ((fsmStep_frame hframe).trans (slotStep_inside hqtr).symm)

/-! ## Frames -/

theorem exchangeBit_setPhase (w : Bool) (p : Phase) (s : State) :
    exchangeBit w (setPhase p s) = setPhase p (exchangeBit w s) := by
  rw [exchangeBit_eq, exchangeBit_eq]
  rfl

/-- A transmitted data slot (R246). -/
theorem slotRun_send {p : Phase} (hp : p ≠ .rxFrame) {k : Fin 10} (h8 : k ≠ 8) (h9 : k ≠ 9) (s : State) :
    slotRun (setPhase p (setSlot k s)) = setPhase p (setSlot (k + 1) (sendSlot s k)) := by
  have hsent : ∀ v, isReceiving (setPhase p v) = false := fun v => beq_false_of_ne hp
  have hbefore : slotBefore (setPhase p (setSlot k s)) = setPhase p (setSlot k s) := by
    simp [slotBefore, h9, hsent]
  have hinput : slotInput (setPhase p (setSlot k s)) = topBit s := by
    simp only [slotInput, hsent, setPhase_frame, setSlot_frame, h8, h9, if_false, Bool.false_eq_true]
    rfl
  have hafter : ∀ v, v.frame.slot = k → slotAfter (setPhase p v) = setPhase p (setSlot (k + 1) (shiftIn false v)) := by
    rintro v rfl
    simp only [slotAfter, hsent, setPhase_frame, h8, h9, if_false, Bool.false_and, Bool.false_eq_true, and_false]
    rfl
  rw [slotRun, hbefore, hinput, exchangeBit_setPhase, hafter _ rfl]
  rfl

theorem storeReceived_setPhase (p : Phase) (s : State) : storeReceived (setPhase p s) = setPhase p (storeReceived s) := by
  simp only [storeReceived, setPhase_desc]
  split <;> rfl

/-- A received data slot, with the release before the first and the store after the last (R246). -/
theorem slotRun_receive {k : Fin 10} (h8 : k ≠ 8) (h9 : k ≠ 9) (s : State) :
    slotRun (setPhase .rxFrame (setSlot k s)) =
      setPhase .rxFrame (setSlot (k + 1)
        (if k = 7 then storeReceived (dirOp .output (receiveSlot (if k = 0 then dirOp .input s else s) k))
          else receiveSlot (if k = 0 then dirOp .input s else s) k)) := by
  have hreceived : ∀ v, isReceiving (setPhase .rxFrame v) = true := fun v => rfl
  have hbefore : slotBefore (setPhase .rxFrame (setSlot k s)) =
      setPhase .rxFrame (setSlot k (if k = 0 then dirOp .input s else s)) := by
    simp only [slotBefore, hreceived, setPhase_frame, setSlot_frame, h9, if_false, and_true]
    split <;> rfl
  have hinput : slotInput (setPhase .rxFrame (setSlot k s)) = true := by
    simp only [slotInput, hreceived, setPhase_frame, setSlot_frame, h8, h9, if_false, if_true]
  have hafter : ∀ v, v.frame.slot = k → slotAfter (setPhase .rxFrame v) = setPhase .rxFrame (setSlot (k + 1)
      (if k = 7 then storeReceived (dirOp .output (shiftIn (observed v) v)) else shiftIn (observed v) v)) := by
    rintro v rfl
    simp only [slotAfter, hreceived, setPhase_frame, h8, h9, if_false, Bool.true_and, and_true]
    split
    · exact congrArg (setSlot _) (storeReceived_setPhase .rxFrame (dirOp .output (shiftIn (observed v) v)))
    · rfl
  rw [slotRun, hbefore, hinput, exchangeBit_setPhase, hafter _ rfl]
  rfl

/-- The MAK slot (R246). -/
theorem slotRun_mak (p : Phase) (s : State) :
    slotRun (setPhase p (setSlot 8 s)) = setPhase p (setSlot 9 (makSlot s)) := by
  have hbefore : slotBefore (setPhase p (setSlot 8 s)) = setPhase p (setSlot 8 s) := by
    simp [slotBefore]
  rw [slotRun, hbefore, exchangeBit_setPhase]
  rfl

/-- The SAK slot, and what follows the frame (R246). -/
theorem slotRun_sak (p : Phase) (s : State) :
    slotRun (setPhase p (setSlot 9 s)) = frameEnd (setPhase p (sakSlot s)) := by
  have hbefore : slotBefore (setPhase p (setSlot 9 s)) = setPhase p (setSlot 9 (dirOp .input s)) := rfl
  rw [slotRun, hbefore, exchangeBit_setPhase]
  rfl

/-- Slots 1 to 6, which every frame runs alike. -/
def middleSlots : List (Fin 10) := [1, 2, 3, 4, 5, 6]

theorem ne_of_mem_middleSlots : ∀ k ∈ middleSlots, k ≠ 0 ∧ k ≠ 7 ∧ k ≠ 8 ∧ k ≠ 9 := by decide

section
variable {p : Phase} (hframe : isFramePhase p = true) {s : State} (hqtr : s.slotE.qtr = 0)
include hframe hqtr

/-- Past the first slot of a frame nothing is loaded. -/
theorem slot_walks_inside {k : Fin 10} (hk : k ≠ 0) {t : State} (h : slotRun (setPhase p (setSlot k s)) = t) :
    Walks (setPhase p (setSlot k s)) (.next t) := by
  have hinside : ¬ atFrameStart (setPhase p (setSlot k s)) = true := by simp [atFrameStart, hk]
  have hstart : frameStart (setPhase p (setSlot k s)) = .next (setPhase p (setSlot k s)) := by
    rw [frameStart, if_neg hinside]
  rw [← h]
  exact slot_walks hframe hqtr hstart

theorem middleSlots_walk {slot : State → Fin 10 → State} (hslot : ∀ v k, (slot v k).slotE.qtr = 0)
    (hrun : ∀ k ∈ middleSlots, ∀ v, slotRun (setPhase p (setSlot k v)) = setPhase p (setSlot (k + 1) (slot v k))) :
    Walks (setPhase p (setSlot 1 s)) (.next (setPhase p (setSlot 7 (middleSlots.foldl slot s)))) := by
  have hnext : ∀ k ∈ middleSlots, ∀ v, v.slotE.qtr = 0 →
      Walks (setPhase p (setSlot k v)) (.next (setPhase p (setSlot (k + 1) (slot v k)))) :=
    fun k hk v hv => slot_walks_inside hframe hv (ne_of_mem_middleSlots k hk).1 (hrun k hk v)
  exact (hnext 1 (by decide) _ hqtr).trans <| (hnext 2 (by decide) _ (hslot _ _)).trans <|
    (hnext 3 (by decide) _ (hslot _ _)).trans <| (hnext 4 (by decide) _ (hslot _ _)).trans <|
    (hnext 5 (by decide) _ (hslot _ _)).trans (hnext 6 (by decide) _ (hslot _ _))

/-- The MAK and the SAK slot, which end every frame. -/
theorem lastSlots_walk : Walks (setPhase p (setSlot 8 s)) (.next (frameEnd (setPhase p (sakSlot (makSlot s))))) :=
  (slot_walks_inside hframe hqtr (by decide) (slotRun_mak p s)).trans
    (slot_walks_inside hframe (s := makSlot s) rfl (by decide) (slotRun_sak p (makSlot s)))

/-- A transmitted frame, from its loads on (R246). -/
theorem sendByte_walks (hp : p ≠ .rxFrame) {v : Byte} {more : Bool}
    (hstart : frameStart (setPhase p (setSlot 0 s)) = .next (setPhase p (setSlot 0 (setMakb more (setShr v s))))) :
    Walks (setPhase p (setSlot 0 s)) (.next (frameEnd (setPhase p (sendByte v more s)))) := by
  have hfirst := slot_walks (s := setPhase p (setSlot 0 s)) hframe hqtr hstart
  rw [slotRun_send hp (by decide) (by decide)] at hfirst
  have hmiddle := middleSlots_walk hframe (s := sendSlot (setMakb more (setShr v s)) 0) rfl (slot := sendSlot)
    (fun _ _ => rfl) fun k hk =>
      have ⟨_, _, h8, h9⟩ := ne_of_mem_middleSlots k hk
      slotRun_send hp h8 h9
  generalize hu : middleSlots.foldl sendSlot (sendSlot (setMakb more (setShr v s)) 0) = u at hmiddle
  have huqtr : u.slotE.qtr = 0 := by rw [← hu]; rfl
  have hlast := slot_walks_inside hframe huqtr (by decide) (slotRun_send hp (k := 7) (by decide) (by decide) u)
  have hsent : sakSlot (makSlot (sendSlot u 7)) = sendByte v more s := by rw [← hu]; rfl
  rw [← hsent]
  exact hfirst.trans <| hmiddle.trans <| hlast.trans (lastSlots_walk hframe rfl)

end

/-- A received frame, from its loads on (R246). -/
theorem receiveByte_walks {s : State} (hqtr : s.slotE.qtr = 0) {more : Bool}
    (hstart : frameStart (setPhase .rxFrame (setSlot 0 s)) = .next (setPhase .rxFrame (setSlot 0 (setMakb more s)))) :
    Walks (setPhase .rxFrame (setSlot 0 s)) (.next (frameEnd (setPhase .rxFrame (receiveByte more s)))) := by
  have hframe : isFramePhase .rxFrame = true := rfl
  have hfirst := slot_walks (s := setPhase .rxFrame (setSlot 0 s)) rfl hqtr hstart
  rw [slotRun_receive (by decide) (by decide)] at hfirst
  have hmiddle := middleSlots_walk hframe (s := receiveSlot (dirOp .input (setMakb more s)) 0) rfl (slot := receiveSlot)
    (fun _ _ => rfl) fun k hk v => by
      obtain ⟨h0, h7, h8, h9⟩ := ne_of_mem_middleSlots k hk
      rw [slotRun_receive h8 h9, if_neg h7, if_neg h0]
  generalize hu : middleSlots.foldl receiveSlot (receiveSlot (dirOp .input (setMakb more s)) 0) = u at hmiddle
  have huqtr : u.slotE.qtr = 0 := by rw [← hu]; rfl
  have hlast := slot_walks_inside hframe huqtr (by decide) (slotRun_receive (k := 7) (by decide) (by decide) u)
  have hstored : (storeReceived (dirOp .output (receiveSlot u 7))).slotE.qtr = 0 := by rw [storeReceived_slotE]; rfl
  have hreceived : sakSlot (makSlot (storeReceived (dirOp .output (receiveSlot u 7)))) = receiveByte more s := by
    rw [← hu]
    rfl
  rw [← hreceived]
  exact hfirst.trans <| hmiddle.trans <| hlast.trans (lastSlots_walk hframe hstored)

end Sys2Proof.Machine

/-! PROOF. The sequencer in a run of frames (45_sequencer_fsm.md R243 to R245): it walks each frame and what follows it, hence the
command frames, the payload, and the two together. -/

namespace Sys2Proof.Machine

/-! ## Runs of frames -/

theorem byteidx_setByteidx {i : Nat} (hi : i < 65536) (s : State) : (setByteidx i s).seq.byteidx.toNat = i :=
  Nat.mod_eq_of_lt hi

/-- Inside the frames of a transaction with the descriptor `d`, at the end or the beginning of a frame, nothing failed so far. -/
structure State.exchanging (d : DescRegs) (size : Nat) (s : State) : Prop where
  qtr : s.slotE.qtr = 0
  ok : s.seq.ok = true
  desc : s.desc = d
  bufSize : s.host.bufSize = size

/-- Byte `i` of the command, and of the payload in the buffer (41_byte_framing.md R162, 43_device_operations.md R192). -/
def commandByte (s : State) (i : Nat) : Byte := cmdByte s.desc.cmd i

def payloadByte (s : State) (i : Nat) : Byte := memRead s.host.buf (s.desc.pbase.toNat + i)

/-- A frame of a run as the procedures of 41_byte_framing.md R162 and R163 send and receive it. -/
def sendFrame (data : State → Nat → Byte) (n : Nat) (terminate : Bool) (i : Nat) (s : State) : State :=
  sendByte (data (setByteidx i s) i) (makSend i n terminate) (setByteidx i s)

def receiveFrame (n i : Nat) (s : State) : State := receiveByte (makReceive i n) (setByteidx i s)

section
variable {s : State} (hqtr : s.slotE.qtr = 0) {i : Nat}
include hqtr

theorem atFrameStart_nextFrame (p : Phase) : atFrameStart (nextFrame p i s) = true := by
  have hstart : (nextFrame p i s).slotE.qtr = 0 := hqtr
  rw [atFrameStart, hstart]
  rfl

/-- One command frame (R243). -/
theorem commandFrame_walks (hi : i < 4) :
    Walks (nextFrame .cmdFrame i s) (.next (commandFrameEnd (setPhase .cmdFrame
      (sendFrame commandByte s.desc.cmdlen.toNat s.desc.cmdterm i s)))) := by
  have hindex : (nextFrame .cmdFrame i s).seq.byteidx.toNat = i := byteidx_setByteidx (by omega) s
  refine sendByte_walks (s := setByteidx i s) rfl hqtr (by decide) ?_
  show frameStart (nextFrame .cmdFrame i s) = _
  rw [frameStart, if_pos (atFrameStart_nextFrame hqtr _)]
  simp only [nextFrame, setPhase_seq] at hindex ⊢
  simp only [hindex, if_pos hi]
  rfl

/-- One transmitted payload frame (R244). -/
theorem transmitFrame_walks (hi : i < 65536) (hfits : s.desc.pbase.toNat + i < s.host.bufSize) :
    Walks (nextFrame .txFrame i s) (.next (payloadFrameEnd .txFrame (setPhase .txFrame
      (sendFrame payloadByte s.desc.plen.toNat true i s)))) := by
  have hindex : (nextFrame .txFrame i s).seq.byteidx.toNat = i := byteidx_setByteidx hi s
  have hpayload : payloadIndex (nextFrame .txFrame i s) = s.desc.pbase.toNat + i :=
    congrArg (s.desc.pbase.toNat + ·) hindex
  refine sendByte_walks (s := setByteidx i s) rfl hqtr (by decide) ?_
  show frameStart (nextFrame .txFrame i s) = _
  have hphase : (nextFrame .txFrame i s).seq.phase = .txFrame := rfl
  rw [frameStart, if_pos (atFrameStart_nextFrame hqtr _)]
  simp only [hphase, hpayload, hindex]
  exact if_pos hfits

/-- One received payload frame (R245). -/
theorem receiveFrame_walks (hi : i < 65536) (hfits : s.desc.pdir = .rxBuf → s.desc.pbase.toNat + i < s.host.bufSize) :
    Walks (nextFrame .rxFrame i s) (.next (payloadFrameEnd .rxFrame (setPhase .rxFrame
      (receiveFrame s.desc.plen.toNat i s)))) := by
  have hindex : (nextFrame .rxFrame i s).seq.byteidx.toNat = i := byteidx_setByteidx hi s
  have hpayload : payloadIndex (nextFrame .rxFrame i s) = s.desc.pbase.toNat + i :=
    congrArg (s.desc.pbase.toNat + ·) hindex
  have hinside : ¬ ((nextFrame .rxFrame i s).desc.pdir = .rxBuf ∧
      (nextFrame .rxFrame i s).host.bufSize ≤ payloadIndex (nextFrame .rxFrame i s)) := by
    rintro ⟨hdir, hpast⟩
    rw [hpayload] at hpast
    exact absurd (hfits hdir) (Nat.not_lt.2 hpast)
  refine receiveByte_walks (s := setByteidx i s) hqtr ?_
  show frameStart (nextFrame .rxFrame i s) = _
  have hphase : (nextFrame .rxFrame i s).seq.phase = .rxFrame := rfl
  rw [frameStart, if_pos (atFrameStart_nextFrame hqtr _)]
  simp only [hphase, if_neg hinside, hindex]
  rfl

end

theorem sendFrame_exchanging {d : DescRegs} {size : Nat} (data : State → Nat → Byte) (n : Nat) (terminate : Bool) (i : Nat)
    {s : State} (h : s.exchanging d size) : (sendFrame data n terminate i s).exchanging d size := by
  have hframes := sendByte_frames (data (setByteidx i s) i) (makSend i n terminate) (setByteidx i s)
  obtain ⟨hqtr, -⟩ := (sendByte_done (data (setByteidx i s) i) (makSend i n terminate) (setByteidx i s)).slotsRest
  exact ⟨hqtr, (congrArg SeqRegs.ok hframes.seq).trans h.ok, hframes.desc.trans h.desc,
    (congrArg HostSide.bufSize hframes.host).trans h.bufSize⟩

theorem receiveFrame_exchanging {d : DescRegs} {size : Nat} (n i : Nat) {s : State} (h : s.exchanging d size) :
    (receiveFrame n i s).exchanging d size := by
  have hdone := receiveByte_done (makReceive i n) (setByteidx i s)
  have hrun := receiveByte_run (makReceive i n) (setByteidx i s)
  exact ⟨hdone.slotsRest.1, (congrArg SeqRegs.ok hdone.seq).trans h.ok, hrun.desc.trans h.desc, hrun.bufSize.trans h.bufSize⟩

theorem sendFrame_byteidx (data : State → Nat → Byte) (n : Nat) (terminate : Bool) {i : Nat} (hi : i < 65536) (s : State) :
    (sendFrame data n terminate i s).seq.byteidx.toNat = i := by
  rw [sendFrame, (sendByte_frames _ _ _).seq, byteidx_setByteidx hi]

theorem receiveFrame_byteidx (n : Nat) {i : Nat} (hi : i < 65536) (s : State) :
    (receiveFrame n i s).seq.byteidx.toNat = i := by
  rw [receiveFrame, (receiveByte_done _ _).seq, byteidx_setByteidx hi]

/-- A run of `n` frames with `left` still to go, up to the first without acknowledgment. -/
def runFrames (frame : Nat → State → State) (n : Nat) : Nat → State → State
  | 0, s => s
  | left + 1, s =>
    let u := frame (n - (left + 1)) s
    if u.frame.ack then runFrames frame n left u else raise .ackFail u

theorem sendBuffer_eq_runFrames (data : State → Nat → Byte) (n : Nat) (terminate : Bool) (left : Nat) (s : State) :
    sendBuffer data n terminate left s = runFrames (sendFrame data n terminate) n left s := by
  induction left generalizing s with
  | zero => rfl
  | succ left ih =>
    simp only [sendBuffer, ih]
    rfl

theorem receiveBuffer_eq_runFrames (n left : Nat) (s : State) :
    receiveBuffer n left s = runFrames (receiveFrame n) n left s := by
  induction left generalizing s with
  | zero => rfl
  | succ left ih =>
    simp only [receiveBuffer, ih]
    rfl

/-- The sequencer walks a frame of a run in phase `p`, and from it leaves the critical section, comes to the next frame, or does
what follows the last (R243 to R245). -/
structure FrameWalks (p : Phase) (n : Nat) (finish : State → State) (frame : Nat → State → State) (i : Nat) (s : State) :
    Prop where
  fails : (frame i s).frame.ack = false → Walks (nextFrame p i s) (.next (setPhase .csExit (raise .ackFail (frame i s))))
  goesOn : (frame i s).frame.ack = true → i + 1 < n → Walks (nextFrame p i s) (.next (nextFrame p (i + 1) (frame i s)))
  ends : (frame i s).frame.ack = true → i + 1 = n → Walks (nextFrame p i s) (.next (setPhase .csExit (finish (frame i s))))

/-- A run of frames, each of which the sequencer walks (41_byte_framing.md R162, R163). -/
theorem runFrames_walks {p : Phase} {n : Nat} {finish : State → State} {frame : Nat → State → State} {d : DescRegs} {size : Nat}
    (hfailed : ∀ u, finish (raise .ackFail u) = raise .ackFail u)
    (hkeeps : ∀ i v, v.exchanging d size → (frame i v).exchanging d size)
    (hframe : ∀ i v, i < n → v.exchanging d size → FrameWalks p n finish frame i v) {left : Nat} {s : State} (hleft : left < n)
    (h : s.exchanging d size) :
    Walks (nextFrame p (n - (left + 1)) s) (.next (setPhase .csExit (finish (runFrames frame n (left + 1) s)))) := by
  induction left generalizing s with
  | zero =>
    have hwalk := hframe (n - 1) s (by omega) h
    rw [runFrames]
    cases hack : (frame (n - 1) s).frame.ack with
    | false => simpa [hack, hfailed] using hwalk.fails hack
    | true => simpa [hack, runFrames] using hwalk.ends hack (by omega)
  | succ left ih =>
    have hwalk := hframe (n - (left + 2)) s (by omega) h
    have hnext : n - (left + 2) + 1 = n - (left + 1) := by omega
    rw [runFrames]
    cases hack : (frame (n - (left + 2)) s).frame.ack with
    | false => simpa [hack, hfailed] using hwalk.fails hack
    | true =>
      have hrest := (hwalk.goesOn hack (by omega)).trans (hnext ▸ ih (by omega) (hkeeps _ s h))
      simpa [hack] using hrest

/-- What follows a payload frame (R244, R245). -/
theorem FrameWalks.of_payloadFrameEnd {p : Phase} {n : Nat} {frame : Nat → State → State} {i : Nat} {s : State}
    (hindex : (frame i s).seq.byteidx.toNat = i) (hlen : (frame i s).desc.plen.toNat = n)
    (h : Walks (nextFrame p i s) (.next (payloadFrameEnd p (setPhase p (frame i s))))) : FrameWalks p n id frame i s := by
  generalize hu : frame i s = u at hindex hlen h
  have hcases : payloadFrameEnd p (setPhase p u) =
      if u.frame.ack then if i + 1 < n then nextFrame p (i + 1) u else setPhase .csExit u
      else setPhase .csExit (raise .ackFail u) := by
    rw [← hindex, ← hlen, payloadFrameEnd]
    cases hack : u.frame.ack with
    | false => simp only [setPhase_frame, hack]; rfl
    | true => simp only [setPhase_frame, hack]; rfl
  rw [hcases] at h
  exact
    { fails := fun hack => by rw [hu] at hack ⊢; simpa [hack] using h
      goesOn := fun hack hmore => by rw [hu] at hack ⊢; simpa [hack, hmore] using h
      ends := fun hack hlast => by rw [hu] at hack ⊢; simpa [hack, ← hlast] using h }

/-- The payload that a descriptor moves between the wire and the buffer lies in the buffer (20_memory.md R71). -/
def payloadInside (d : DescRegs) (size : Nat) : Prop := d.pdir = .tx ∨ d.pdir = .rxBuf → d.pbase.toNat + d.plen.toNat ≤ size

theorem payload_of_empty {s : State} (h : s.desc.plen = 0 ∨ s.desc.pdir = .none) : payload s = s := by
  unfold payload
  obtain hplen | hdir := h
  · rw [hplen]
    split <;> rfl
  · rw [hdir]

section
variable {d : DescRegs} {size : Nat}

/-- The payload frames, all of them still to go. -/
theorem payloadFrames_walk {p : Phase} {frame : Nat → State → State} {s : State} (h : s.exchanging d size) (hplen : d.plen ≠ 0)
    (hkeeps : ∀ i v, v.exchanging d size → (frame i v).exchanging d size)
    (hframe : ∀ i v, i < d.plen.toNat → v.exchanging d size → FrameWalks p d.plen.toNat id frame i v) :
    Walks (nextFrame p 0 s) (.next (setPhase .csExit (runFrames frame d.plen.toNat d.plen.toNat s))) := by
  obtain ⟨left, hleft⟩ := Nat.exists_eq_succ_of_ne_zero (BitVec.toNat_pos_of_ne_zero hplen).ne'
  have hrun := runFrames_walks (fun u => rfl) hkeeps hframe (left := left) (by omega) h
  rw [← Nat.succ_eq_add_one, ← hleft, Nat.sub_self] at hrun
  exact hrun

variable (hfits : payloadInside d size)
include hfits

theorem transmitPayload_walks {s : State} (h : s.exchanging d size) (hdir : d.pdir = .tx) (hplen : d.plen ≠ 0) :
    Walks (nextFrame .txFrame 0 s) (.next (setPhase .csExit (payload s))) := by
  have hpayload : payload s = runFrames (sendFrame payloadByte d.plen.toNat true) d.plen.toNat d.plen.toNat s := by
    rw [← sendBuffer_eq_runFrames, payload, h.desc]
    simp only [hdir]
    rfl
  have hinside := hfits (.inl hdir)
  rw [hpayload]
  refine payloadFrames_walk h hplen (fun i v => sendFrame_exchanging _ _ _ i) fun i v hi hv => ?_
  have hindex : i < 65536 := hi.trans d.plen.isLt
  have hwalk := transmitFrame_walks hv.qtr hindex (by rw [hv.desc, hv.bufSize]; omega)
  rw [hv.desc] at hwalk
  exact .of_payloadFrameEnd (sendFrame_byteidx _ _ _ hindex v)
    (congrArg (fun d => d.plen.toNat) (sendFrame_exchanging _ _ _ i hv).desc) hwalk

theorem receivePayload_walks {s : State} (h : s.exchanging d size) (hdir : d.pdir = .rxBuf ∨ d.pdir = .rxStatus)
    (hplen : d.plen ≠ 0) : Walks (nextFrame .rxFrame 0 s) (.next (setPhase .csExit (payload s))) := by
  have hpayload : payload s = runFrames (receiveFrame d.plen.toNat) d.plen.toNat d.plen.toNat s := by
    rw [← receiveBuffer_eq_runFrames, payload, h.desc]
    obtain hdir | hdir := hdir <;> simp only [hdir]
  rw [hpayload]
  refine payloadFrames_walk h hplen (fun i v => receiveFrame_exchanging _ i) fun i v hi hv => ?_
  have hindex : i < 65536 := hi.trans d.plen.isLt
  have hinside : v.desc.pdir = .rxBuf → v.desc.pbase.toNat + i < v.host.bufSize := by
    rw [hv.desc, hv.bufSize]
    intro hbuf
    have := hfits (.inr hbuf)
    omega
  have hwalk := receiveFrame_walks hv.qtr hindex hinside
  rw [hv.desc] at hwalk
  exact .of_payloadFrameEnd (receiveFrame_byteidx _ hindex v)
    (congrArg (fun d => d.plen.toNat) (receiveFrame_exchanging _ i hv).desc) hwalk

/-- After the last command frame the payload, if there is one (R243). -/
theorem lastCommandFrame_walks {x u : State} (hu : u.exchanging d size) (hack : u.frame.ack = true)
    (hlast : d.cmdlen.toNat ≤ u.seq.byteidx.toNat + 1)
    (h : Walks x (.next (commandFrameEnd (setPhase .cmdFrame u)))) :
    Walks x (.next (setPhase .csExit (payload (setByteidx 0 u)))) := by
  have hnext : (setByteidx 0 u).exchanging d size := ⟨hu.qtr, hu.ok, hu.desc, hu.bufSize⟩
  have hfailed : ¬ (!(setPhase .cmdFrame u).frame.ack) = true := by simp [hack]
  have hmore : ¬ (setPhase .cmdFrame u).seq.byteidx.toNat + 1 < (setPhase .cmdFrame u).desc.cmdlen.toNat := by
    rw [setPhase_desc, hu.desc]
    exact Nat.not_lt.2 hlast
  rw [commandFrameEnd, if_neg hfailed, if_neg hmore, setPhase_desc, hu.desc] at h
  split at h
  next hplen =>
    rw [payload_of_empty (.inl (by rw [hnext.desc, hplen]))]
    exact h
  next hplen =>
    split at h
    next hdir => exact h.trans (transmitPayload_walks hfits hnext hdir hplen)
    next hdir => exact h.trans (receivePayload_walks hfits hnext (.inl hdir) hplen)
    next hdir => exact h.trans (receivePayload_walks hfits hnext (.inr hdir) hplen)
    next hdir =>
      rw [payload_of_empty (.inr (by rw [hnext.desc, hdir]))]
      exact h

/-- What follows the command frames (43_device_operations.md R192). -/
def thenPayload (s : State) : State := if s.seq.ok then payload (setByteidx 0 s) else s

theorem commandFrame_frameWalks (hlen : d.cmdlen.toNat ≤ 4) {i : Nat} {s : State} (hi : i < d.cmdlen.toNat)
    (h : s.exchanging d size) :
    FrameWalks .cmdFrame d.cmdlen.toNat thenPayload (sendFrame commandByte d.cmdlen.toNat d.cmdterm) i s := by
  have hu := sendFrame_exchanging commandByte d.cmdlen.toNat d.cmdterm i h
  have hindex := sendFrame_byteidx commandByte d.cmdlen.toNat d.cmdterm (i := i) (by omega) s
  have hwalk := commandFrame_walks h.qtr (i := i) (by omega)
  rw [h.desc] at hwalk
  generalize hframe : sendFrame commandByte d.cmdlen.toNat d.cmdterm i s = u at hu hindex hwalk
  constructor
  case fails =>
    intro hack
    rw [hframe] at hack ⊢
    rw [commandFrameEnd, if_pos (by simp [hack])] at hwalk
    exact hwalk
  case goesOn =>
    intro hack hmore
    rw [hframe] at hack ⊢
    have hnext : (setPhase .cmdFrame u).seq.byteidx.toNat + 1 < (setPhase .cmdFrame u).desc.cmdlen.toNat := by
      rw [setPhase_desc, hu.desc]
      show u.seq.byteidx.toNat + 1 < _
      rw [hindex]
      exact hmore
    rw [commandFrameEnd, if_neg (by simp [hack]), if_pos hnext] at hwalk
    have hnumber : (setPhase .cmdFrame u).seq.byteidx.toNat = i := hindex
    rw [hnumber] at hwalk
    exact hwalk
  case ends =>
    intro hack hlast
    rw [hframe] at hack ⊢
    rw [thenPayload, if_pos hu.ok]
    exact lastCommandFrame_walks hfits hu hack (by omega) hwalk

/-- The frames of a wire command with its payload (43_device_operations.md R192; 45_sequencer_fsm.md R243 to R245). -/
theorem exchange_walks (hpos : 0 < d.cmdlen.toNat) (hlen : d.cmdlen.toNat ≤ 4) {s : State} (h : s.exchanging d size) :
    Walks (nextFrame .cmdFrame 0 s) (.next (setPhase .csExit (exchange s))) := by
  have hexchange : exchange s =
      thenPayload (runFrames (sendFrame commandByte d.cmdlen.toNat d.cmdterm) d.cmdlen.toNat d.cmdlen.toNat s) := by
    rw [← sendBuffer_eq_runFrames, ← h.desc]
    rfl
  obtain ⟨left, hleft⟩ := Nat.exists_eq_succ_of_ne_zero hpos.ne'
  have hrun := runFrames_walks (fun u => rfl) (fun i v => sendFrame_exchanging _ _ _ i)
    (fun i v hi hv => commandFrame_frameWalks hfits hlen hi hv) (left := left) (by omega) h
  rw [← Nat.succ_eq_add_one, ← hleft, Nat.sub_self] at hrun
  rw [hexchange]
  exact hrun

end

end Sys2Proof.Machine

/-! PROOF. The sequencer in a transaction (45_sequencer_fsm.md R236 to R250): lead, header, frames and exit table, hence the polls of
`await_write_complete` and the chunks of `simple_write`. -/

namespace Sys2Proof.Machine

/-! ## Transactions -/

theorem sendByte_of_loaded (v : Byte) (more : Bool) (s : State) :
    sendByte v more (setMakb more (setShr v s)) = sendByte v more s :=
  congrArg (fun t => sakSlot (makSlot (dataSlots.foldl sendSlot t)))
    (rfl : setMakb more (setShr v (setMakb more (setShr v s))) = setMakb more (setShr v s))

theorem frameEnd_header (s : State) : frameEnd (setPhase .hdrFrame s) = nextFrame .cmdFrame 0 s := rfl

/-- The header (R241, R242): its frame is loaded by the hold. -/
theorem startHeader_walks {s : State} (hqtr : s.slotE.qtr = 0) :
    Walks (setPhase .hdrHold s) (.next (nextFrame .cmdFrame 0 (startHeader s))) := by
  have hhold : fsmStep (setPhase .hdrHold s) = .next (setPhase .hdrFrame (setSlot 0
      (setMakb true (setShr Config.startHeader (dly .hdr (lvlOp false s)))))) := rfl
  have hloaded : ∀ u, frameStart (setPhase .hdrFrame u) = .next (setPhase .hdrFrame u) := by
    intro u
    unfold frameStart
    split <;> rfl
  have hframe := sendByte_walks (p := .hdrFrame) (v := Config.startHeader) (more := true)
    (s := setMakb true (setShr Config.startHeader (dly .hdr (lvlOp false s)))) rfl hqtr (by decide) (hloaded _)
  rw [sendByte_of_loaded, frameEnd_header] at hframe
  exact (Walks.of_step hhold).trans hframe

/-- The phase in which a lead begins (R237, R239). -/
def leadPhase : Lead → Phase
  | .standby => .stbyLow
  | .gap => .gap

/-- The standby pulse, and what its lead says follows (R237, R238). -/
theorem standbyPulse_walks (s : State) :
    Walks (setPhase .stbyLow s)
      (.next (setPhase (if s.desc.lead = .gap then .gap else .csEnter) (standbyPulse (setOk true s)))) := by
  have hlow : fsmStep (setPhase .stbyLow s) = .next (setPhase .stbyHigh (dly .setup (lvlOp false (setOk true s)))) := rfl
  exact (Walks.of_step hlow).trans (.of_step rfl)

/-- The lead and `CS_ENTER` (R237 to R240). -/
theorem leadIn_walks (s : State) :
    Walks (setPhase (leadPhase s.desc.lead) s) (.next (setPhase .hdrHold (csEnter (leadIn (setOk true s))))) := by
  have henter : ∀ u, Walks (setPhase .csEnter u) (.next (setPhase .hdrHold (csEnter u))) := fun u => .of_step rfl
  have hlead : (setOk true s).desc.lead = s.desc.lead := rfl
  rw [leadIn, hlead]
  cases h : s.desc.lead with
  | standby =>
    have hpulse := standbyPulse_walks s
    rw [h] at hpulse
    exact hpulse.trans (henter _)
  | gap =>
    have hgap : fsmStep (setPhase .gap s) = .next (setPhase .csEnter (interCommandGap (setOk true s))) := rfl
    exact (Walks.of_step hgap).trans (henter _)

/-- A row has two to four command bytes (30_encoding.md R107). -/
theorem State.rowLoaded.cmdlen_le {s : State} (h : s.rowLoaded) : s.desc.cmdlen.toNat ≤ 4 := by
  obtain ⟨op, -, hdesc⟩ := h.row
  rw [hdesc]
  cases op with
  | read | startWrite => exact (by decide : (4 : BitVec 3).toNat ≤ 4)
  | writeStatus => exact (by decide : (3 : BitVec 3).toNat ≤ 4)
  | enableWrite | disableWrite | readStatus | await => exact (by decide : (2 : BitVec 3).toNat ≤ 4)

theorem State.rowLoaded.payloadInside {s : State} (h : s.rowLoaded) : payloadInside s.desc s.host.bufSize :=
  fun hdir => of_decide_eq_true (h.fits hdir)

theorem exchange_walks_of_rowLoaded {s u : State} (h : s.rowLoaded) (hu : u.exchanging s.desc s.host.bufSize) :
    Walks (nextFrame .cmdFrame 0 u) (.next (setPhase .csExit (exchange u))) :=
  exchange_walks h.payloadInside h.cmdlen_pos h.cmdlen_le hu

/-- Past `CS_EXIT` the exit table (R247). -/
def exitTable (s : State) : State :=
  if !s.seq.ok then setPhase .finish s
  else if s.seq.curop = .op .await then setPhase .pollTest s
  else if s.opnd.opsel = 8#4 ∧ s.seq.curop = .op .enableWrite then setPhase .precheck (enter .startWrite s)
  else if s.opnd.opsel = 8#4 ∧ s.seq.curop = .op .startWrite then setPhase awaitPhase (enter .await s)
  else setPhase .finish s

theorem fsmCsExit_eq (s : State) : fsmCsExit (setPhase .csExit s) = exitTable (csExit s) := by
  simp only [fsmCsExit, exitTable]
  rfl

section
variable {s : State}

theorem exitTable_failed (h : s.seq.ok = false) : exitTable s = setPhase .finish s := by
  simp [exitTable, h]

theorem exitTable_await (hok : s.seq.ok = true) (hcurop : s.seq.curop = .op .await) :
    exitTable s = setPhase .pollTest s := by
  simp [exitTable, hok, hcurop]

theorem exitTable_enabled (hok : s.seq.ok = true) (hcurop : s.seq.curop = .op .enableWrite) (hop : s.opnd.opsel = 8#4) :
    exitTable s = setPhase .precheck (enter .startWrite s) := by
  simp [exitTable, hok, hcurop, hop]

theorem exitTable_written (hok : s.seq.ok = true) (hcurop : s.seq.curop = .op .startWrite) (hop : s.opnd.opsel = 8#4) :
    exitTable s = setPhase .stbyLow (enter .await s) := by
  simp [exitTable, hok, hcurop, hop, awaitPhase, Config.awaitLeadingStandby]

theorem exitTable_finish (hcurop : s.seq.curop ≠ .op .await) (hop : s.opnd.opsel ≠ 8#4) :
    exitTable s = setPhase .finish s := by
  simp [exitTable, hcurop, hop]

end

/-- A transaction whose row is loaded, from its lead to the exit table (R237 to R247). -/
theorem transaction_walks {s : State} (h : s.rowLoaded) (hqtr : s.slotE.qtr = 0) :
    Walks (setPhase (leadPhase s.desc.lead) s) (.next (exitTable (transaction s))) := by
  have hlead := leadIn_frames (setOk true s)
  have hleadQtr : (csEnter (leadIn (setOk true s))).slotE.qtr = 0 := by
    unfold leadIn
    split <;> exact hqtr
  have hopen := openSession_open s
  have hopened : (openSession s).exchanging s.desc s.host.bufSize :=
    ⟨(startHeader_drivenHigh _).qtr, hopen.ok, hopen.desc, by rw [hopen.host]⟩
  have hexit : Walks (setPhase .csExit (exchange (openSession s))) (.next (exitTable (transaction s))) := by
    rw [transaction_eq, ← fsmCsExit_eq]
    exact .of_step rfl
  exact (leadIn_walks s).trans <| (startHeader_walks hleadQtr).trans <| (exchange_walks_of_rowLoaded h hopened).trans hexit

theorem finish_walks (s : State) : Walks (setPhase .finish s) (.next (complete s)) := .of_step rfl

theorem State.rowLoaded.lead {s : State} (h : s.rowLoaded) {op : DevOp} (hop : s.seq.curop = .op op) :
    s.desc.lead = leadOf op := by
  obtain ⟨op', hcurop, hdesc⟩ := h.row
  cases hcurop.symm.trans hop
  rw [hdesc]

theorem transaction_opnd (s : State) : (transaction s).opnd = s.opnd := by
  obtain ⟨-, -, -, hopnd, -⟩ := transaction_run s
  exact hopnd

/-- A request of one transaction (R237 to R247, R252). -/
theorem singleTransaction_walks {op : DevOp} {s : State} (h : (enter op s).rowLoaded) (hqtr : s.slotE.qtr = 0)
    (hlead : leadOf op = .standby) (hop : s.opnd.opsel ≠ 8#4) :
    Walks (setPhase .stbyLow (enter op s)) (.next (complete (transaction (enter op s)))) := by
  have hwalk := transaction_walks h hqtr
  have hcurop : (transaction (enter op s)).seq.curop ≠ .op .await := by
    rw [transaction_curop]
    rintro hawait
    cases hawait
    cases hlead
  rw [h.lead rfl, hlead, exitTable_finish hcurop (by rw [transaction_opnd]; exact hop)] at hwalk
  exact hwalk.trans (finish_walks _)

/-! ## Polls -/

/-- After a transaction of `await_write_complete`: another poll, the next chunk, or the end (R247, R248). -/
def afterPoll (s : State) : State := if s.seq.ok then fsmPollTest s else setPhase .finish s

theorem transaction_rowLoaded {s : State} (h : s.rowLoaded) : (transaction s).rowLoaded := h.congr (transaction_session s)

theorem pollTest_walks (s : State) : Walks (setPhase .pollTest s) (.next (fsmPollTest s)) := .of_step rfl

/-- One poll from its gap (R239 to R248). -/
theorem poll_walks {s : State} (h : s.rowLoaded) (hcurop : s.seq.curop = .op .await) (hqtr : s.slotE.qtr = 0) :
    Walks (setPhase .gap s) (.next (afterPoll (transaction s))) := by
  have hwalk := transaction_walks h hqtr
  rw [h.lead hcurop] at hwalk
  rw [afterPoll]
  cases hok : (transaction s).seq.ok with
  | false =>
    rw [exitTable_failed hok] at hwalk
    exact hwalk
  | true =>
    rw [exitTable_await hok ((transaction_curop s).trans hcurop)] at hwalk
    exact hwalk.trans (pollTest_walks _)

theorem afterPoll_busy {s : State} (h : stillPolling s = true) : afterPoll s = setPhase .gap s := by
  simp only [stillPolling, Bool.and_eq_true] at h
  obtain ⟨hok, hwip⟩ := h
  simp [afterPoll, fsmPollTest, hok, hwip]

/-- The poll loop (43_device_operations.md R207), as many polls as one step runs (log 19). -/
theorem pollLoop_walks (fuel : Nat) {s : State} (h : s.rowLoaded) (hcurop : s.seq.curop = .op .await)
    (hqtr : s.slotE.qtr = 0) : Walks (setPhase .gap s) (.next (afterPoll (pollLoop (fuel + 1) s))) := by
  have hpoll := poll_walks h hcurop hqtr
  induction fuel generalizing s with
  | zero =>
    rw [pollLoop_succ]
    split <;> exact hpoll
  | succ fuel ih =>
    rw [pollLoop_succ]
    split
    next hbusy =>
      rw [afterPoll_busy hbusy] at hpoll
      have hnext := transaction_rowLoaded h
      have hnextCurop := (transaction_curop s).trans hcurop
      have hnextQtr := (transaction_drivenHigh s).qtr
      exact hpoll.trans (ih hnext hnextCurop hnextQtr (poll_walks hnext hnextCurop hnextQtr))
    next => exact hpoll

/-- The opening pulse and the polls (R206, R207). -/
theorem runPolls_walks {s : State} (hok : s.seq.ok = true) (hqtr : s.slotE.qtr = 0) :
    Walks (setPhase .stbyLow (enter .await s)) (.next (afterPoll (runPolls s))) := by
  have hpulse := standbyPulse_walks (enter .await s)
  have hopened : standbyPulse (setOk true (enter .await s)) = awaitOpen s := by
    have hsame : setOk true (enter .await s) = enter .await s := by
      rw [← hok]
      rfl
    rw [hsame]
    rfl
  have hrow : (awaitOpen s).rowLoaded := (enter_plain_rowLoaded (op := .await) (by decide) (by decide) s).congr rfl
  obtain ⟨fuel, hfuel⟩ : ∃ fuel, pollFuel (awaitOpen s) = fuel + 1 :=
    Nat.exists_eq_succ_of_ne_zero (lt_pollFuel (.inl rfl)).ne'
  have hpolls := pollLoop_walks fuel hrow rfl hqtr
  rw [← hfuel] at hpolls
  rw [hopened] at hpulse
  exact hpulse.trans hpolls

/-- A transaction that has failed ends the operation, and so does the last poll of `await_write_complete` (R247, R248). -/
theorem afterPoll_ends {s : State} (h : s.seq.ok = false ∨ wip s = false ∧ s.opnd.opsel ≠ 8#4) :
    afterPoll s = setPhase .finish s := by
  obtain hok | ⟨hwip, hop⟩ := h
  · simp [afterPoll, hok]
  · simp [afterPoll, fsmPollTest, hwip, hop]

/-- `await_write_complete` (R206, R207). -/
theorem runAwait_walks {s : State} (hok : s.seq.ok = true) (hqtr : s.slotE.qtr = 0) (hop : s.opnd.opsel ≠ 8#4) :
    Walks (setPhase .stbyLow (enter .await s)) (runAwait s) := by
  have hpolls := runPolls_walks hok hqtr
  have hopnd : (runPolls s).opnd.opsel ≠ 8#4 := by
    rw [opnd_of_paging (runPolls_paging s)]
    exact hop
  simp only [runAwait]
  generalize runPolls s = t at *
  split
  next hbusy =>
    rw [afterPoll_busy hbusy] at hpolls
    exact hpolls
  next hbusy =>
    rw [Bool.not_eq_true, stillPolling, Bool.and_eq_false_iff] at hbusy
    rw [afterPoll_ends (hbusy.imp_right (⟨·, hopnd⟩))] at hpolls
    exact hpolls.trans (finish_walks t)

/-! ## Chunks -/

/-- The pre-check of an admitted write (R236). -/
theorem precheck_walks {s : State} (hpage : fitsPage s.orch.curAddr s.desc.plen.toNat = true) (hfits : payloadFits s = true) :
    Walks (setPhase .precheck s) (.next (setPhase .stbyLow s)) := by
  have hadmitted : fsmPrecheck (setPhase .precheck s) = .next (setPhase .stbyLow s) := by
    rw [fsmPrecheck, if_pos (by exact hpage), if_pos (by exact hfits)]
    rfl
  exact .of_step hadmitted

theorem enter_startWrite_rowLoaded {s : State}
    (hpage : fitsPage (enter .startWrite s).orch.curAddr (enter .startWrite s).desc.plen.toNat = true)
    (hfits : payloadFits (enter .startWrite s) = true) : (enter .startWrite s).rowLoaded :=
  ⟨⟨.startWrite, rfl, enter_row .startWrite s⟩, fun _ => hpage, fun _ => hfits⟩

section
variable {s : State} (h : s.betweenChunks) (hop : s.opnd.opsel = 8#4) (hrem : s.orch.rem ≠ 0)
include h hop hrem

/-- The bytes of a chunk lie in the buffer (44_paged_write.md R229). -/
theorem chunk_payloadFits : payloadFits (enter .startWrite (chunkEnabled s)) = true := by
  have hinside : (chunkEnabled s).insideChunk := (h.takeChunk hrem).congr (chunkEnabled_paging s)
  have hle := chunkLength_le_rem s.orch.rem s.orch.curAddr
  have hplen := chunk_plen hop
  have hbase : (enter .startWrite (chunkEnabled s)).desc.pbase = s.orch.curPtr := by
    show (chunkEnabled s).orch.curPtr = _
    rw [chunkEnabled_orch]
    rfl
  have hsize : (enter .startWrite (chunkEnabled s)).host.bufSize = s.host.bufSize :=
    congrArg (fun p => p.2.2) (chunkEnabled_paging s)
  have hcounted := h.counted
  have hlength := h.fits
  rw [payloadFits, hplen, hbase, hsize, State.nextChunk]
  exact decide_eq_true (by dsimp only; omega)

/-- A chunk, up to its last poll or to the sub-operation that fails (R247 to R249). -/
theorem runChunk_walks (hqtr : s.slotE.qtr = 0) : Walks (setPhase .chunkCalc s) (.next (afterPoll (runChunk s))) := by
  have hcalc : Walks (setPhase .chunkCalc s) (.next (setPhase .stbyLow (enter .enableWrite (takeChunk s)))) := by
    have hmore : fsmChunkCalc (setPhase .chunkCalc s) = setPhase .stbyLow (enter .enableWrite (takeChunk s)) := by
      rw [fsmChunkCalc, if_neg (by exact hrem)]
      rfl
    exact .of_step (congrArg Host.Outcome.next hmore)
  have henable := transaction_walks
    (enter_plain_rowLoaded (op := .enableWrite) (by decide) (by decide) (takeChunk s)) hqtr
  have henableCurop : (chunkEnabled s).seq.curop = .op .enableWrite := transaction_curop _
  have hpage : fitsPage (enter .startWrite (chunkEnabled s)).orch.curAddr
      (enter .startWrite (chunkEnabled s)).desc.plen.toNat = true := by
    rw [chunk_plen hop, enter_orch, chunkEnabled_orch]
    exact fitsPage_chunkLength ..
  have hfits := chunk_payloadFits h hop hrem
  have henableQtr : (chunkEnabled s).slotE.qtr = 0 := (transaction_drivenHigh _).qtr
  have hwrite := transaction_walks (enter_startWrite_rowLoaded hpage hfits) henableQtr
  have hwriteCurop : (chunkWritten s).seq.curop = .op .startWrite := transaction_curop _
  rw [← chunkEnabled] at henable
  rw [← chunkWritten] at hwrite
  cases henabled : (chunkEnabled s).seq.ok with
  | false =>
    rw [exitTable_failed henabled] at henable
    rw [runChunk_of_enable_failed henabled, afterPoll_ends (.inl henabled)]
    exact hcalc.trans henable
  | true =>
    rw [exitTable_enabled henabled henableCurop (by rw [chunkEnabled_opnd, hop])] at henable
    have hstart := hcalc.trans (henable.trans (precheck_walks hpage hfits))
    rw [runChunk_of_enabled hop henabled]
    cases hwritten : (chunkWritten s).seq.ok with
    | false =>
      rw [exitTable_failed hwritten] at hwrite
      rw [if_neg Bool.false_ne_true, afterPoll_ends (.inl hwritten)]
      exact hstart.trans hwrite
    | true =>
      rw [exitTable_written hwritten hwriteCurop (by rw [chunkWritten_opnd, hop])] at hwrite
      rw [if_pos rfl]
      exact hstart.trans (hwrite.trans (runPolls_walks hwritten (transaction_drivenHigh _).qtr))

end

theorem afterPoll_nextChunk {s : State} (hok : s.seq.ok = true) (hwip : wip s = false) (hop : s.opnd.opsel = 8#4) :
    afterPoll s = setPhase .chunkAdv s := by
  simp [afterPoll, fsmPollTest, hok, hwip, hop]

theorem chunkAdv_walks (s : State) : Walks (setPhase .chunkAdv s) (.next (setPhase .chunkCalc (advanceChunk s))) :=
  .of_step rfl

theorem lastChunk_walks {s : State} (hrem : s.orch.rem = 0) (fuel : Nat) :
    Walks (setPhase .chunkCalc s) (.next (chunkLoop fuel s)) := by
  have hdone : fsmChunkCalc (setPhase .chunkCalc s) = setPhase .finish s := by
    rw [fsmChunkCalc, if_pos (by exact hrem)]
    rfl
  have hcalc : Walks (setPhase .chunkCalc s) (.next (setPhase .finish s)) := .of_step (congrArg Host.Outcome.next hdone)
  rw [chunkLoop_ends hrem]
  exact hcalc.trans (finish_walks s)

theorem chunkLoop_suspends {s : State} (hrem : s.orch.rem ≠ 0) (h : stillPolling (runChunk s) = true) (fuel : Nat) :
    chunkLoop (fuel + 1) s = suspend (runChunk s) := by
  simp only [stillPolling, Bool.and_eq_true] at h
  obtain ⟨hok, hwip⟩ := h
  simp only [chunkLoop, hrem, hok, hwip, if_false, Bool.not_true, Bool.false_eq_true, if_true]

/-- The chunk loop (44_paged_write.md R220): fuel for every byte that remains is enough. -/
theorem chunkLoop_walks {fuel : Nat} {s : State} (h : s.betweenChunks) (hop : s.opnd.opsel = 8#4)
    (hfuel : s.orch.rem.toNat ≤ fuel) (hqtr : s.slotE.qtr = 0) :
    Walks (setPhase .chunkCalc s) (.next (chunkLoop (fuel + 1) s)) := by
  induction fuel generalizing s with
  | zero => exact lastChunk_walks (BitVec.eq_of_toNat_eq (Nat.le_zero.1 hfuel)) _
  | succ fuel ih =>
    by_cases hrem : s.orch.rem = 0
    · exact lastChunk_walks hrem _
    · have hrun := runChunk_walks h hop hrem hqtr
      have hinside : (runChunk s).insideChunk := (h.takeChunk hrem).congr (runChunk_paging s)
      have hrunOp : (runChunk s).opnd.opsel = 8#4 := by rw [runChunk_opnd, hop]
      cases hok : (runChunk s).seq.ok with
      | false =>
        rw [afterPoll_ends (.inl hok)] at hrun
        rw [chunkLoop_fails hrem hok]
        exact hrun.trans (finish_walks _)
      | true =>
        cases hwip : wip (runChunk s) with
        | true =>
          have hbusy : stillPolling (runChunk s) = true := by rw [stillPolling, hok, hwip]; rfl
          rw [afterPoll_busy hbusy] at hrun
          rw [chunkLoop_suspends hrem hbusy]
          exact hrun
        | false =>
          have hleft : (advanceChunk (runChunk s)).orch.rem.toNat ≤ fuel := by
            rw [hinside.advance, orch_of_paging (runChunk_paging s)]
            exact rem_sub_chunk_le hrem s.orch.curAddr hfuel
          rw [afterPoll_nextChunk hok hwip hrunOp] at hrun
          rw [chunkLoop_goes_on hrem hok hwip]
          exact hrun.trans ((chunkAdv_walks _).trans (ih hinside.advanceChunk hrunOp hleft (runChunk_drivenHigh s).qtr))

end Sys2Proof.Machine

/-! PROOF. The sequencer from START to the end of a request (45_sequencer_fsm.md R233 to R253), and the steps of the sequencer that
one step of the engine takes (R256). -/

namespace Sys2Proof.Machine

/-! ## Requests -/

section
variable {s : State} (hbusy : s.res.busy = false)
include hbusy

/-- A request of an operation: refused before `init`, dispatched after it (R234). -/
theorem hostRequest_walks {i : Instr} {operation : State → Host.Outcome State Fault Refusal}
    {c : BitVec 4} (hcode : (present i s.opnd).opsel = c) (hc : c.toNat ≠ 0 ∧ c.toNat < 9)
    (hrun : ∀ v, s = setInited v → Walks (start (present i) s) (operation (start (present i) s))) :
    Walks (start (present i) s) (hostRequest i operation s) := by
  subst hcode
  obtain ⟨hop, hassigned⟩ := hc
  rw [hostRequest, if_neg (by simp [hbusy])]
  by_cases hinit : s.inited = true
  · rw [if_pos hinit]
    exact hrun s (by rw [setInited, ← hinit])
  · have hrefuse : fsmStep (start (present i) s) = .next (refuse .notInitialised (start (present i) s)) := by
      show fsmDispatch _ = _
      rw [fsmDispatch, if_neg (by exact Nat.not_le.2 hassigned), if_pos (by exact ⟨hop, hinit⟩)]
      rfl
    rw [if_neg hinit]
    exact (Walks.of_step hrefuse).trans (finish_walks (raise .notInitialised (start (present i) s)))

theorem reservedRequest_walks {i : Instr} {c : BitVec 4} (hcode : (present i s.opnd).opsel = c) (hc : 9 ≤ c.toNat) :
    Walks (start (present i) s) (reservedRequest i s) := by
  have hrefuse : fsmStep (start (present i) s) = .next (refuse .reservedCode (start (present i) s)) := by
    show fsmDispatch _ = _
    rw [fsmDispatch, if_pos (by exact hcode ▸ hc)]
    rfl
  rw [reservedRequest, if_neg (by simp [hbusy])]
  exact (Walks.of_step hrefuse).trans (finish_walks (raise .reservedCode (start (present i) s)))

/-- `init` (R251). -/
theorem execInit_walks : Walks (start (present .init) s) (execInit s) := by
  have hdispatch : Walks (start (present .init) s) (.next (setPhase .initDo (start (present .init) s))) := .of_step rfl
  have hdo : ∀ v, Walks (setPhase .initDo v) (.next (setPhase .finish (setInited (dirOp .output (lvlOp true v))))) :=
    fun v => .of_step rfl
  rw [execInit, if_neg (by simp [hbusy])]
  exact hdispatch.trans ((hdo _).trans (finish_walks _))

variable (hqtr : s.slotE.qtr = 0)
include hqtr

/-- The requests without pre-check and buffer (R234). -/
theorem plainRequest_walks {i : Instr} {op : DevOp} {c : BitVec 4} (hcode : (present i s.opnd).opsel = c)
    (hc : c.toNat ≠ 0 ∧ c.toNat < 8) (hlead : leadOf op = .standby) (hread : op ≠ .read) (hwrite : op ≠ .startWrite)
    (hdispatch : ∀ v, s = setInited v →
      fsmStep (start (present i) s) = .next (setPhase .stbyLow (enter op (start (present i) s)))) :
    Walks (start (present i) s) (hostRequest i (runPlain op) s) := by
  refine hostRequest_walks hbusy hcode ⟨hc.1, hc.2.trans (by decide)⟩ fun v hv => ?_
  have hop : (start (present i) s).opnd.opsel ≠ 8#4 := by
    show (present i s.opnd).opsel ≠ 8#4
    rw [hcode]
    rintro rfl
    exact absurd hc.2 (by decide)
  have hrow := enter_plain_rowLoaded hread hwrite (start (present i) s)
  exact (Walks.of_step (hdispatch v hv)).trans (singleTransaction_walks hrow hqtr hlead hop)

theorem execRead_walks (dev : Byte) (offset length : Half) :
    Walks (start (present (.read dev offset length)) s) (execRead dev offset length s) := by
  refine hostRequest_walks hbusy (c := 1) rfl (by decide) ?_
  rintro v rfl
  generalize hu : loadAddress (start (present (.read dev offset length)) (setInited v)) = u
  have hdispatch : fsmStep (start (present (.read dev offset length)) (setInited v)) =
      if payloadFits (enter .read u) then .next (setPhase .stbyLow (enter .read u))
      else .refused (.bufferRange ((enter .read u).desc.plen.toNat - 1)) := by
    rw [← hu]
    rfl
  have huqtr : u.slotE.qtr = 0 := by rw [← hu]; exact hqtr
  have hop : u.opnd.opsel ≠ 8#4 := by rw [← hu]; exact (by decide : (1 : BitVec 4) ≠ 8#4)
  simp only [runRead, hu]
  split
  next hfits =>
    rw [if_pos hfits] at hdispatch
    exact (Walks.of_step hdispatch).trans (singleTransaction_walks (enter_read_rowLoaded hfits) huqtr rfl hop)
  next hfits =>
    rw [if_neg hfits] at hdispatch
    exact .of_step hdispatch

theorem execStartWrite_walks (dev : Byte) (offset length : Half) :
    Walks (start (present (.startWrite dev offset length)) s) (execStartWrite dev offset length s) := by
  refine hostRequest_walks hbusy (c := 2) rfl (by decide) ?_
  rintro v rfl
  generalize hu : loadWriteOperands (start (present (.startWrite dev offset length)) (setInited v)) = u
  have hdispatch : Walks (start (present (.startWrite dev offset length)) (setInited v))
      (.next (setPhase .precheck (enter .startWrite u))) := .of_step (by rw [← hu]; rfl)
  have huqtr : u.slotE.qtr = 0 := by rw [← hu]; exact hqtr
  have hop : u.opnd.opsel ≠ 8#4 := by rw [← hu]; exact (by decide : (2 : BitVec 4) ≠ 8#4)
  have hprecheck : ∀ w, fsmStep (setPhase .precheck w) = fsmPrecheck (setPhase .precheck w) := fun w => rfl
  simp only [runStartWrite, hu]
  split
  next hpage =>
    split
    next hfits =>
      exact hdispatch.trans ((precheck_walks hpage hfits).trans
        (singleTransaction_walks (enter_startWrite_rowLoaded hpage hfits) huqtr rfl hop))
    next hfits =>
      refine hdispatch.trans (.of_step ((hprecheck _).trans ?_))
      rw [fsmPrecheck, if_pos (by exact hpage), if_neg (by exact hfits)]
      rfl
  next hpage =>
    have hviolation : Walks (setPhase .precheck (enter .startWrite u)) (.next (refuse .pageViolation (enter .startWrite u))) := by
      refine .of_step ((hprecheck _).trans ?_)
      rw [fsmPrecheck, if_neg (by exact hpage)]
      rfl
    exact hdispatch.trans (hviolation.trans (finish_walks (raise .pageViolation (enter .startWrite u))))

theorem execAwaitWriteComplete_walks (dev : Byte) :
    Walks (start (present (.awaitWriteComplete dev)) s) (execAwaitWriteComplete dev s) := by
  refine hostRequest_walks hbusy (c := 7) rfl (by decide) ?_
  rintro v rfl
  have hdispatch : Walks (start (present (.awaitWriteComplete dev)) (setInited v))
      (.next (setPhase .stbyLow (enter .await (start (present (.awaitWriteComplete dev)) (setInited v))))) :=
    .of_step rfl
  have hop : (start (present (.awaitWriteComplete dev)) (setInited v)).opnd.opsel ≠ 8#4 := by
    show (7 : BitVec 4) ≠ 8#4
    decide
  exact hdispatch.trans (runAwait_walks rfl hqtr hop)

theorem execSimpleWrite_walks (dev : Byte) (offset length : Half) :
    Walks (start (present (.simpleWrite dev offset length)) s) (execSimpleWrite dev offset length s) := by
  refine hostRequest_walks hbusy (c := 8) rfl (by decide) ?_
  rintro v rfl
  generalize hu : start (present (.simpleWrite dev offset length)) (setInited v) = u
  have hdispatch : fsmStep u =
      if u.opnd.length.toNat ≤ u.host.bufSize then .next (setPhase .chunkCalc (loadPagedOperands u))
      else .refused (.bufferRange (u.opnd.length.toNat - 1)) := by
    rw [← hu]
    rfl
  have huqtr : u.slotE.qtr = 0 := by rw [← hu]; exact hqtr
  have hop : u.opnd.opsel = 8#4 := by rw [← hu]; rfl
  rw [runSimpleWrite]
  by_cases hfits : u.opnd.length.toNat ≤ u.host.bufSize
  · rw [if_pos hfits] at hdispatch
    rw [if_pos (by exact hfits)]
    exact (Walks.of_step hdispatch).trans (chunkLoop_walks (loadPagedOperands_betweenChunks hfits) hop le_rfl huqtr)
  · rw [if_neg hfits] at hdispatch
    rw [if_neg (by exact hfits)]
    exact .of_step hdispatch

end

/-- Settles O49: from START the sequencer walks every request to the outcome of its procedure. -/
theorem sequencerAgrees : Obligations.SequencerAgrees := by
  intro i s hi hbusy hqtr
  have hwalk : Walks (start (present i) s) (exec i s) := by
    cases i with
    | init => exact execInit_walks hbusy
    | read dev offset length => exact execRead_walks hbusy hqtr dev offset length
    | startWrite dev offset length => exact execStartWrite_walks hbusy hqtr dev offset length
    | enableWrite dev =>
      exact plainRequest_walks hbusy hqtr (op := .enableWrite) (c := 3) rfl (by decide) rfl (by decide) (by decide)
        (by rintro v rfl; rfl)
    | disableWrite dev =>
      exact plainRequest_walks hbusy hqtr (op := .disableWrite) (c := 4) rfl (by decide) rfl (by decide) (by decide)
        (by rintro v rfl; rfl)
    | readStatus dev =>
      exact plainRequest_walks hbusy hqtr (op := .readStatus) (c := 5) rfl (by decide) rfl (by decide) (by decide)
        (by rintro v rfl; rfl)
    | writeStatus dev status =>
      exact plainRequest_walks hbusy hqtr (op := .writeStatus) (c := 6) rfl (by decide) rfl (by decide) (by decide)
        (by rintro v rfl; rfl)
    | awaitWriteComplete dev => exact execAwaitWriteComplete_walks hbusy hqtr dev
    | simpleWrite dev offset length => exact execSimpleWrite_walks hbusy hqtr dev offset length
    | reserved9 => exact reservedRequest_walks hbusy (c := 9) rfl (by decide)
    | reserved10 => exact reservedRequest_walks hbusy (c := 10) rfl (by decide)
    | reserved11 => exact reservedRequest_walks hbusy (c := 11) rfl (by decide)
    | reserved12 => exact reservedRequest_walks hbusy (c := 12) rfl (by decide)
    | reserved13 => exact reservedRequest_walks hbusy (c := 13) rfl (by decide)
    | reserved14 => exact reservedRequest_walks hbusy (c := 14) rfl (by decide)
    | reserved15 => exact reservedRequest_walks hbusy (c := 15) rfl (by decide)
    | _ => cases hi
  obtain ⟨k, -, hk⟩ := hwalk
  exact ⟨k, hk⟩

/-! ## A step of the engine -/

theorem setPhase_self {s : State} {p : Phase} (h : s.seq.phase = p) : setPhase p s = s := by
  subst h
  rfl

/-- The first command frame is where the sequencer stands after the header. -/
theorem nextFrame_self {s : State} (hphase : s.seq.phase = .cmdFrame) (hstart : atCommandStart s = true) :
    nextFrame .cmdFrame 0 s = s := by
  simp only [atCommandStart, atFrameStart, Bool.and_eq_true, beq_iff_eq] at hstart
  obtain ⟨⟨hslot, -⟩, hindex⟩ := hstart
  have hbyteidx : setByteidx 0 s = s := by
    show ({ s with seq := { s.seq with byteidx := 0 } } : State) = s
    rw [← hindex]
  have hfirst : setSlot 0 s = s := by
    rw [← hslot]
    rfl
  rw [nextFrame, hbyteidx, hfirst, setPhase_self hphase]

/-- In a transaction under way the command is not refused (20_memory.md R71), and as an instruction it is its frames (log 17). -/
theorem exec_command_of_rowLoaded {s : State} (h : s.rowLoaded) (hok : s.seq.ok = true) {i : Instr}
    (hi : fetchWire s = some i) : exec i s = .next (exchange s) := by
  obtain ⟨op, -, hdesc⟩ := h.row
  obtain rfl : op.command s = i := Option.some.inj ((fetchWire_loaded hdesc).symm.trans hi)
  have hfits : (descRow op s).pdir = .tx ∨ (descRow op s).pdir = .rxBuf → payloadFits (setDesc (descRow op s) s) = true := by
    have hinside := h.fits
    rw [payloadFits, hdesc] at hinside
    exact hinside
  have hanswers : ∃ t, exec (op.command s) s = .next t := by
    cases op with
    | read => exact ⟨_, if_pos (hfits (.inr rfl))⟩
    | startWrite => exact ⟨_, if_pos (hfits (.inl rfl))⟩
    | enableWrite | disableWrite | readStatus | await | writeStatus => exact ⟨_, rfl⟩
  obtain ⟨t, ht⟩ := hanswers
  rw [ht, (exec_command_loaded hdesc).of_eq ht, sendCommand_loaded hok]

theorem State.Inv.rowLoaded_of_frame {s : State} (h : s.Inv) (hframe : isFramePhase s.seq.phase = true) : s.rowLoaded :=
  State.descriptorSound.rowLoaded_of_frame ⟨h.descriptorLoaded, h.payloadAdmitted, h.countersInRange⟩ hframe

theorem State.Inv.ok_of_frame {s : State} (h : s.Inv) (hframe : isFramePhase s.seq.phase = true) : s.seq.ok = true := by
  have hok := h.okWhileRunning
  unfold State.okWhileRunning at hok
  cases hp : s.seq.phase with
  | hdrFrame | cmdFrame | txFrame | rxFrame => simpa [hp] using hok
  | _ => rw [hp] at hframe; cases hframe

/-- A whole wire command, from its first frame (R256, log 1). -/
theorem command_walks {s : State} (h : s.Inv) (hphase : s.seq.phase = .cmdFrame) (hstart : atCommandStart s = true) {i : Instr}
    (hi : fetchWire s = some i) : Walks s (engineStep s) := by
  have hframe : isFramePhase s.seq.phase = true := by rw [hphase]; rfl
  have hrow := h.rowLoaded_of_frame hframe
  have hok := h.ok_of_frame hframe
  have hqtr : s.slotE.qtr = 0 := by
    simp only [atCommandStart, atFrameStart, Bool.and_eq_true, beq_iff_eq] at hstart
    exact hstart.1.2
  have hwalk := exchange_walks_of_rowLoaded hrow ⟨hqtr, hok, rfl, rfl⟩
  rw [nextFrame_self hphase hstart] at hwalk
  rw [engineStep_command hphase hstart hi, exec_command_of_rowLoaded hrow hok hi]
  exact hwalk

/-- With the host waiting the engine takes one or more steps of the sequencer (R256). -/
theorem engineStep_walks {s : State} (h : s.Inv) : Walks s (engineStep s) := by
  have hslot : isFramePhase s.seq.phase = true →
      (s.seq.phase = .cmdFrame → atCommandStart s = true → fetchWire s = none) → Walks s (engineStep s) := by
    intro hframe hother
    rw [engineStep_slot hframe hother]
    exact slotStep_walks hframe
  cases hp : s.seq.phase with
  | hdrHold =>
    obtain ⟨hrest, -⟩ := h.slotsRest
    have hwalk := startHeader_walks (hrest (by rw [hp]; rfl))
    have hstep : engineStep s = .next (nextFrame .cmdFrame 0 (startHeader s)) := by
      simp only [engineStep, hp]
      rfl
    rw [setPhase_self hp] at hwalk
    rw [hstep]
    exact hwalk
  | cmdFrame =>
    by_cases hstart : atCommandStart s = true
    · cases hi : fetchWire s with
      | none => exact hslot (by rw [hp]; rfl) fun _ _ => hi
      | some i => exact command_walks h hp hstart hi
    · exact hslot (by rw [hp]; rfl) fun _ hstart' => absurd hstart' hstart
  | hdrFrame | txFrame | rxFrame => exact hslot (by rw [hp]; rfl) fun hcmd => by rw [hp] at hcmd; cases hcmd
  | _ =>
    have hstep : engineStep s = fsmStep s := by simp only [engineStep, hp]
    exact .of_step hstep.symm

/-- Settles O50: with the host waiting a step is the engine's, whose phases, slots and instructions the sequencer walks. -/
theorem stepIsSequencerRun : Obligations.StepIsSequencerRun := by
  intro s hinv hwait
  rw [step_wait hwait]
  exact engineStep_walks (popMove_inv hinv)

end Sys2Proof.Machine

/-! PROOF. The completion poll that does not end (43_device_operations.md R207, R208; 60_exceptions.md R278): as many busy polls as
a step may run, then the gap before the next one. -/

namespace Sys2Proof.Machine

/-- A transaction writes no result but `STATUS_R` (R209). -/
theorem transaction_res (s : State) : (transaction s).res = { s.res with statusR := (transaction s).res.statusR } := by
  obtain ⟨-, -, -, -, -, -, -, -, -, hsuccess, hbusy, hdone, -⟩ := transaction_run s
  show (transaction s).res = ⟨s.res.success, (transaction s).res.statusR, s.res.busy, s.res.done⟩
  rw [← hsuccess, ← hbusy, ← hdone]

/-- What `m + 1` busy polls leave that no other one follows in the same step (log 19). -/
structure PollsWait (dev : Byte) (m : Nat) (s t : State) : Prop where
  polling : stillPolling t = true
  trace : traced s t (List.replicate (m + 1) (pollShape s.host.ie dev)).flatten
  env : t.env = s.env.after (80 * (m + 1))
  line : t.line = { dir := .output, lvl := true }
  host : t.host = s.host
  savedIe : t.savedIe = s.host.ie
  qtr : t.slotE.qtr = 0
  res : t.res = { s.res with statusR := pollStatus s m }

section
variable {s : State} {d : DescRegs} {dev : Byte} (hrow : s.desc = pollRow d dev) (hacked : pollAcked s 0 = true)
include hrow hacked

theorem poll_res_of_acked : (transaction s).res = { s.res with statusR := pollStatus s 0 } := by
  obtain ⟨-, hstatus⟩ := poll_status hrow
  rw [transaction_res, hstatus, statusAfterPolls_of_acked hacked]

theorem poll_traced_of_acked : traced s (transaction s) (pollShape s.host.ie dev) := by
  have htrace := poll_traced hrow
  rwa [show framesRun s 1 3 = 3 from framesRun_of_allAcked hacked] at htrace

/-- The last busy poll of the step. -/
theorem poll_waits (hwip : (pollStatus s 0).getLsbD 0 = true) : PollsWait dev 0 s (transaction s) := by
  have hdone := poll_done hrow
  obtain ⟨hhost, -⟩ := poll_status hrow
  obtain ⟨hqtr, -⟩ := hdone.slotsRest
  have hpolling : stillPolling (transaction s) = true := by
    rw [poll_stillPolling hrow, hacked, hwip, Bool.and_self]
  have htrace : traced s (transaction s) (List.replicate 1 (pollShape s.host.ie dev)).flatten := by
    simpa using poll_traced_of_acked hrow hacked
  exact ⟨hpolling, htrace, poll_env_of_acked hrow hacked, hdone.line, hhost, hdone.savedIe, hqtr,
    poll_res_of_acked hrow hacked⟩

/-- A busy poll before the others. -/
theorem PollsWait.cons {m : Nat} {t : State} (h : PollsWait dev m (transaction s) t) : PollsWait dev (m + 1) s t := by
  obtain ⟨hhost, -⟩ := poll_status hrow
  have henv := poll_env_of_acked hrow hacked
  have hres := poll_res_of_acked hrow hacked
  have hrest := (poll_traced_of_acked hrow hacked).trans h.trace
  generalize transaction s = u at *
  rw [hhost] at hrest
  exact
    { polling := h.polling
      trace := by rw [List.replicate_succ, List.flatten_cons]; exact hrest
      env := by
        rw [h.env, henv, Env.after_after]
        congr 1
        omega
      line := h.line
      host := h.host.trans hhost
      savedIe := by rw [h.savedIe, hhost]
      qtr := h.qtr
      res := by rw [h.res, hres, pollStatus_next henv] }

end

/-- The loop runs all the polls it may, each of them busy. -/
theorem pollLoop_waits {s : State} {d : DescRegs} {dev : Byte} {m : Nat} (hrow : s.desc = pollRow d dev)
    (hbusy : ∀ j < m + 1, pollAcked s j = true ∧ (pollStatus s j).getLsbD 0 = true) :
    PollsWait dev m s (pollLoop (m + 1) s) := by
  induction m generalizing s with
  | zero =>
    obtain ⟨hacked, hwip⟩ := hbusy 0 Nat.one_pos
    rw [pollLoop_succ, pollLoop, ite_self]
    exact poll_waits hrow hacked hwip
  | succ m ih =>
    obtain ⟨hacked, hwip⟩ := hbusy 0 (m + 1).succ_pos
    obtain ⟨-, -, hdesc, -⟩ := transaction_run s
    have henv := poll_env_of_acked hrow hacked
    have hnext : ∀ j < m + 1, pollAcked (transaction s) j = true ∧ (pollStatus (transaction s) j).getLsbD 0 = true := by
      intro j hj
      rw [pollAcked_next henv, pollStatus_next henv]
      exact hbusy (j + 1) (Nat.succ_lt_succ hj)
    rw [pollLoop_succ, poll_stillPolling hrow, hacked, hwip, Bool.and_self, if_pos rfl]
    exact (ih (hdesc.trans hrow) hnext).cons hrow hacked

/-- Where the last poll of the step was busy, `await_write_complete` stops before the next one. -/
theorem execAwait_polling {dev : Byte} {s : State} (hready : s.ready)
    (hpolling : stillPolling (pollLoop (pollFuel (awaitBegun dev s)) (awaitBegun dev s)) = true) :
    execAwaitWriteComplete dev s = .next (suspend (pollLoop (pollFuel (awaitBegun dev s)) (awaitBegun dev s))) := by
  have hgoes : stillPolling (runPolls (start (present (.awaitWriteComplete dev)) s)) = true := hpolling
  exact (hostRequest_ready hready _ _).trans (congrArg Host.Outcome.next (if_pos hgoes))

/-- A step runs `m + 1` polls where the last begins within the script, or is the first, and the script ends with it (log 19). -/
theorem pollFuel_eq {s : State} {m : Nat} (hbegins : m = 0 ∨ 80 * m < s.env.script.length)
    (hends : s.env.script.length ≤ 80 * (m + 1)) : pollFuel s = m + 1 := by
  rw [pollFuel]
  omega

/-- Settles O42: the loop runs all the polls the step may, and the last of them is busy too. -/
theorem awaitWaits : Obligations.AwaitWaits := by
  intro dev m s hready hbegins hends hbusy
  obtain ⟨m, rfl⟩ : ∃ k, m = k + 1 := Nat.exists_eq_succ_of_ne_zero (by omega)
  have hfuel : pollFuel (awaitBegun dev s) = m + 1 := by
    refine pollFuel_eq (s := awaitBegun dev s) ?_ hends
    exact hbegins.imp Nat.succ.inj And.right
  have hwait : PollsWait dev m (awaitBegun dev s) (pollLoop (pollFuel (awaitBegun dev s)) (awaitBegun dev s)) := by
    rw [hfuel]
    exact pollLoop_waits (d := s.desc) rfl hbusy
  have hsession := pollLoop_session (pollFuel (awaitBegun dev s)) (awaitBegun dev s)
  have hrun : RunsOn (awaitBegun dev s) (pollLoop (pollFuel (awaitBegun dev s)) (awaitBegun dev s)) :=
    (RunsOn.refl _).then_pollLoop _
  simp only [State.session, Prod.mk.injEq] at hsession
  obtain ⟨hdesc, hopnd, horch, hcurop, -⟩ := hsession
  refine ⟨_, execAwait_polling hready hwait.polling, ?_⟩
  generalize pollLoop (pollFuel (awaitBegun dev s)) (awaitBegun dev s) = t at hwait hdesc hopnd horch hcurop hrun ⊢
  have htrace := (awaitBegun_traced dev s).trans hwait.trace
  obtain ⟨hok, -⟩ := Bool.and_eq_true_iff.1 hwait.polling
  have hres := hwait.res
  exact ⟨congrArg ResultRegs.busy hres, congrArg ResultRegs.done hres, rfl, hcurop, hok, hwait.host, hwait.line, hdesc,
    hopnd, horch, hrun.inited hready.2, hwait.savedIe, (congrArg ResultRegs.success hres :), hwait.qtr, hwait.env,
    congrArg ResultRegs.statusR hres, htrace⟩

end Sys2Proof.Machine

/-! PROOF. The critical section (60_exceptions.md R266, R267): a step of the engine and START of a whole operation are runs of the
sequencer (45_sequencer_fsm.md R253, R256), so what each of its steps keeps, the whole step keeps. -/

namespace Sys2Proof.Machine

/-! ## Runs of the sequencer -/

/-- What each step of the sequencer keeps, a run of it keeps. -/
theorem fsmRun_keeps {P : State → Prop} (hstep : ∀ s, P s → OnNext P (fsmStep s)) (k : Nat) {s : State} (h : P s) :
    OnNext P (fsmRun k s) := by
  induction k generalizing s with
  | zero => exact h
  | succ k ih => exact (hstep s h).andThen fun _ ht => ih ht

theorem State.Inv.idle {s : State} (h : s.Inv) (hbusy : s.res.busy = false) : s.seq.phase = .idle := by
  obtain ⟨-, hidle⟩ | hrun := h.controlled.idle_or_underWay
  · exact hidle
  · exact absurd hrun.busy (by simp [hbusy])

/-- The request registers always hold an instruction (30_encoding.md R115, R124). -/
theorem fetchRequest_eq (s : State) :
    fetchRequest s =
      .ok (decodeRequest s.opnd.opsel s.opnd.devaddr s.opnd.offset s.opnd.length s.opnd.statusW) :=
  decode_requestBytes ..

/-- START of a whole operation: ignored while busy, else a run of the sequencer from the operation's dispatch (R212, R253). -/
theorem hostStart_run {s : State} (h : s.Inv) :
    hostStart s = .next s ∨ ∃ i k, hostStart s = fsmRun k (start (present i) s) := by
  rw [hostStart, fetchRequest_eq]
  split
  · exact .inl rfl
  next hbusy =>
    have hbusy : s.res.busy = false := by simpa using hbusy
    obtain ⟨hrest, -⟩ := h.slotsRest
    have hqtr : s.slotE.qtr = 0 := hrest (by rw [h.idle hbusy]; rfl)
    obtain ⟨k, hk⟩ := sequencerAgrees _ s (decodeRequest_isRequest ..) hbusy hqtr
    exact .inr ⟨_, k, hk.symm⟩

/-! ## The critical section -/

theorem exchangeMasked_of_outside {s : State} (h : inCriticalSection s.seq.phase = false) : s.exchangeMasked :=
  fun hin => absurd hin (by simp [h])

theorem fsmDispatch_exchangeMasked (s : State) : OnNext State.exchangeMasked (fsmDispatch s) := by
  simp only [fsmDispatch]
  split
  · exact exchangeMasked_of_outside rfl
  · split
    · exact exchangeMasked_of_outside rfl
    · split
      -- `read` and `simple_write` are looked at for their length here (log 8)
      case h_2 | h_9 =>
        split
        · exact exchangeMasked_of_outside rfl
        · trivial
      all_goals exact exchangeMasked_of_outside rfl

theorem fsmPrecheck_exchangeMasked (s : State) : OnNext State.exchangeMasked (fsmPrecheck s) := by
  unfold fsmPrecheck
  split
  · split
    · exact exchangeMasked_of_outside rfl
    · trivial
  · exact exchangeMasked_of_outside rfl

theorem fsmCsExit_exchangeMasked (s : State) : (fsmCsExit s).exchangeMasked := by
  refine exchangeMasked_of_outside ?_
  simp only [fsmCsExit, awaitPhase]
  split_ifs <;> rfl

theorem fsmPollTest_exchangeMasked (s : State) : (fsmPollTest s).exchangeMasked := by
  refine exchangeMasked_of_outside ?_
  unfold fsmPollTest
  split_ifs <;> rfl

theorem fsmChunkCalc_exchangeMasked (s : State) : (fsmChunkCalc s).exchangeMasked := by
  refine exchangeMasked_of_outside ?_
  unfold fsmChunkCalc
  split_ifs <;> rfl

theorem commandFrameEnd_host (s : State) : (commandFrameEnd s).host = s.host := by
  unfold commandFrameEnd
  split_ifs
  case neg => split <;> rfl
  all_goals rfl

theorem payloadFrameEnd_host (p : Phase) (s : State) : (payloadFrameEnd p s).host = s.host := by
  unfold payloadFrameEnd
  split_ifs <;> rfl

theorem frameEnd_host (s : State) : (frameEnd s).host = s.host := by
  unfold frameEnd
  split
  · rfl
  · exact commandFrameEnd_host s
  · exact payloadFrameEnd_host .txFrame s
  · exact payloadFrameEnd_host .rxFrame s
  · rfl

/-- No step inside a frame writes `IE` (60_exceptions.md R267). -/
theorem FrameMove.ie {s t : State} (g : FrameMove s t) : t.host.ie = s.host.ie := by
  cases g with
  | stays g => rw [g.host]
  | ends u g ht => rw [ht, frameEnd_host, g.host]
  | stores u g hrx ht => rw [ht.host, storeReceived_host_ie, g.host]

theorem inCriticalSection_of_isFramePhase {p : Phase} (h : isFramePhase p = true) : inCriticalSection p = true := by
  revert h
  cases p <;> decide

/-- `CS_ENTER` clears `IE`, and no phase from there to `CS_EXIT` writes it. -/
theorem fsmStep_exchangeMasked {s : State} (h : s.exchangeMasked) : OnNext State.exchangeMasked (fsmStep s) := by
  by_cases hframe : isFramePhase s.seq.phase = true
  · rw [fsmStep_frame hframe]
    exact (frameQuarter_move s).imp fun t ht _ => ht.ie.trans (h (inCriticalSection_of_isFramePhase hframe))
  · unfold fsmStep
    cases hp : s.seq.phase with
    | idle => exact h
    | dispatch => exact fsmDispatch_exchangeMasked s
    | precheck => exact fsmPrecheck_exchangeMasked s
    | stbyLow | gap | chunkAdv | initDo | finish => exact exchangeMasked_of_outside rfl
    | stbyHigh => exact exchangeMasked_of_outside (by rw [setPhase_seq]; split <;> rfl)
    | csEnter => exact fun _ => rfl
    | hdrHold =>
      have hie : s.host.ie = false := h (by rw [hp]; rfl)
      exact fun _ => hie
    | hdrFrame | cmdFrame | txFrame | rxFrame => simp [hp, isFramePhase] at hframe
    | csExit => exact fsmCsExit_exchangeMasked s
    | pollTest => exact fsmPollTest_exchangeMasked s
    | chunkCalc => exact fsmChunkCalc_exchangeMasked s

theorem fsmRun_exchangeMasked (k : Nat) {s : State} (h : s.exchangeMasked) : OnNext State.exchangeMasked (fsmRun k s) :=
  fsmRun_keeps (fun _ => fsmStep_exchangeMasked) k h

theorem hostMove_exchangeMasked (m : HostMove) {s : State} (h : s.Inv) : OnNext State.exchangeMasked (hostMove m s) := by
  have hmasked := h.exchangeMasked
  cases m with
  | wait =>
    obtain ⟨k, -, hk⟩ := engineStep_walks h
    rw [hostMove, ← hk]
    exact fsmRun_exchangeMasked k hmasked
  | tick => exact fsmStep_exchangeMasked hmasked
  | start =>
    obtain hrests | ⟨i, k, hk⟩ := hostStart_run h
    · rw [hostMove, hrests]
      exact hmasked
    · rw [hostMove, hk]
      exact fsmRun_exchangeMasked k (exchangeMasked_of_outside rfl)
  | startPulse =>
    simp only [hostMove, hostStartPulse]
    split
    · exact hmasked
    · exact exchangeMasked_of_outside rfl
  | writeReg r v => exact hostWrite_onNext fun _ => hmasked
  | writeIe v => exact hostWrite_onNext fun hbusy => exchangeMasked_of_outside (congrArg inCriticalSection (h.idle hbusy))
  | writeBuf i v =>
    simp only [hostMove]
    split
    · exact hostWrite_onNext fun _ => hmasked
    · trivial
  | rst => exact exchangeMasked_of_outside rfl

/-- Settles O54: `CS_ENTER` clears `IE`, no step of the sequencer writes it before `CS_EXIT`, and the host can write it only while
the engine is idle. -/
theorem exchangeMasked : Obligations.ExchangeMasked := fun _ _ hinv hstep =>
  (hostMove_exchangeMasked _ (popMove_inv hinv)).of_eq hstep

end Sys2Proof.Machine

/-! PROOF. The engine goes on (60_exceptions.md R263, R271): its frames always find their byte, the dispatch and the pre-check alone
refuse, and no step faults. -/

namespace Sys2Proof.Machine

/-! ## How a step of the engine ends -/

/-- How a step of the engine ends: with a next state, or it is the dispatch or the pre-check of a request whose bytes do not fit
the buffer, which is refused (20_memory.md R71, log 8). -/
def AnswersOrRefuses (s : State) (o : Host.Outcome State Fault Refusal) : Prop :=
  (∃ t, o = .next t) ∨
  (s.seq.phase = .dispatch ∧ s.host.bufSize < s.opnd.length.toNat ∧
    o = .refused (.bufferRange (s.opnd.length.toNat - 1))) ∨
  (s.seq.phase = .precheck ∧ payloadFits s = false ∧ o = .refused (.bufferRange (s.desc.plen.toNat - 1)))

theorem AnswersOrRefuses.ne_fault {s : State} {o : Host.Outcome State Fault Refusal} (h : AnswersOrRefuses s o) (r : Fault) :
    o ≠ .fault r := by
  obtain ⟨t, rfl⟩ | ⟨-, -, rfl⟩ | ⟨-, -, rfl⟩ := h <;> exact nofun

/-- A payload byte under way lies in the buffer, if that is where it comes from or goes to (20_memory.md R71). -/
theorem State.descriptorSound.payloadIndex_lt {s : State} (h : s.descriptorSound)
    (hphase : s.seq.phase = .txFrame ∨ s.seq.phase = .rxFrame) (hdir : s.desc.pdir = .tx ∨ s.desc.pdir = .rxBuf) :
    payloadIndex s < s.host.bufSize := by
  have hframe : isFramePhase s.seq.phase = true := by obtain hp | hp := hphase <;> rw [hp] <;> rfl
  obtain ⟨-, hcounter⟩ := h.countersInRange
  have hindex := hcounter hphase
  have hsize : s.desc.pbase.toNat + s.desc.plen.toNat ≤ s.host.bufSize := by
    simpa [payloadFits] using (h.rowLoaded_of_frame hframe).fits hdir
  rw [payloadIndex]
  omega

section
variable {s : State} (h : s.descriptorSound)
include h

/-- The loads of a frame: the command byte exists, the payload byte lies in the buffer (log 26, log 8). -/
theorem frameStart_answers : ∃ t, frameStart s = .next t := by
  unfold frameStart
  split
  · split
    next hp =>
      obtain ⟨hcounter, -⟩ := h.countersInRange
      have hindex := hcounter hp
      have hlen := (h.rowLoaded_of_frame (by rw [hp]; rfl)).cmdlen_le
      exact ⟨_, if_pos (by omega)⟩
    next hp =>
      obtain ⟨-, htx, -⟩ := h.payloadAdmitted
      exact ⟨_, if_pos (h.payloadIndex_lt (.inl hp) (.inl (htx hp)))⟩
    next hp =>
      exact ⟨_, if_neg fun ⟨hdir, hpast⟩ => (h.payloadIndex_lt (.inr hp) (.inr hdir)).not_ge hpast⟩
    next => exact ⟨_, rfl⟩
  · exact ⟨_, rfl⟩

theorem frameQuarter_answers : ∃ t, frameQuarter s = .next t := by
  obtain ⟨t, ht⟩ := frameStart_answers h
  rw [frameQuarter, ht]
  exact ⟨_, rfl⟩

theorem slotStep_answers : ∃ t, slotStep s = .next t := by
  unfold slotStep
  split
  · obtain ⟨t, ht⟩ := frameStart_answers h
    rw [ht]
    simp only [andThen, decode_slotCode, exec_slot]
    exact ⟨_, rfl⟩
  · exact frameQuarter_answers h

end

/-- `read` and `simple_write` are refused at their dispatch (log 8). -/
theorem fsmDispatch_answersOrRefuses {s : State} (hp : s.seq.phase = .dispatch) : AnswersOrRefuses s (fsmDispatch s) := by
  simp only [fsmDispatch]
  split
  · exact .inl ⟨_, rfl⟩
  · split
    · exact .inl ⟨_, rfl⟩
    · split
      case h_2 =>
        split
        next => exact .inl ⟨_, rfl⟩
        next hlong =>
          have hspan : ¬ 0 + s.opnd.length.toNat ≤ s.host.bufSize := mt decide_eq_true hlong
          exact .inr (.inl ⟨hp, by omega, rfl⟩)
      case h_9 =>
        split
        next => exact .inl ⟨_, rfl⟩
        next hlong => exact .inr (.inl ⟨hp, Nat.not_le.1 hlong, rfl⟩)
      all_goals exact .inl ⟨_, rfl⟩

/-- A write is refused at its pre-check, once its page rule has passed (log 8). -/
theorem fsmPrecheck_answersOrRefuses {s : State} (hp : s.seq.phase = .precheck) : AnswersOrRefuses s (fsmPrecheck s) := by
  unfold fsmPrecheck
  split
  · split
    next => exact .inl ⟨_, rfl⟩
    next hlong => exact .inr (.inr ⟨hp, by simpa using hlong, rfl⟩)
  · exact .inl ⟨_, rfl⟩

theorem fsmStep_answersOrRefuses {s : State} (h : s.descriptorSound) : AnswersOrRefuses s (fsmStep s) := by
  by_cases hframe : isFramePhase s.seq.phase = true
  · rw [fsmStep_frame hframe]
    exact .inl (frameQuarter_answers h)
  · unfold fsmStep
    cases hp : s.seq.phase with
    | dispatch => exact fsmDispatch_answersOrRefuses hp
    | precheck => exact fsmPrecheck_answersOrRefuses hp
    | hdrFrame | cmdFrame | txFrame | rxFrame => simp [hp, isFramePhase] at hframe
    | _ => exact .inl ⟨_, rfl⟩

theorem fsmRun_ne_fault (k : Nat) {s : State} (h : s.descriptorSound) (r : Fault) : fsmRun k s ≠ .fault r := by
  induction k generalizing s with
  | zero => exact nofun
  | succ k ih =>
    have hne := (fsmStep_answersOrRefuses h).ne_fault
    have hsound := fsmStep_descriptorSound h
    rw [fsmRun]
    cases hstep : fsmStep s with
    | next t => exact ih (hsound.of_eq hstep)
    | fault r' => exact absurd hstep (hne r')
    | refused r' => exact nofun

theorem State.Inv.descriptorSound {s : State} (h : s.Inv) : s.descriptorSound :=
  ⟨h.descriptorLoaded, h.payloadAdmitted, h.countersInRange⟩

/-- With the host waiting: a slot or a wire command inside a frame answers, the header too, and the rest is the sequencer's. -/
theorem engineStep_answersOrRefuses {s : State} (h : s.Inv) : AnswersOrRefuses s (engineStep s) := by
  by_cases hframe : isFramePhase s.seq.phase = true
  · by_cases hcommand : s.seq.phase = .cmdFrame ∧ atCommandStart s = true ∧ ∃ i, fetchWire s = some i
    · obtain ⟨hphase, hstart, i, hi⟩ := hcommand
      rw [engineStep_command hphase hstart hi,
        exec_command_of_rowLoaded (h.rowLoaded_of_frame hframe) (h.ok_of_frame hframe) hi]
      exact .inl ⟨_, rfl⟩
    · rw [engineStep_slot hframe fun hphase hstart =>
        Option.eq_none_iff_forall_ne_some.2 fun i hi => hcommand ⟨hphase, hstart, i, hi⟩]
      exact .inl (slotStep_answers h.descriptorSound)
  · cases hp : s.seq.phase with
    | hdrFrame | cmdFrame | txFrame | rxFrame => simp [hp, isFramePhase] at hframe
    | hdrHold =>
      have hheader : engineStep s = .next (nextFrame .cmdFrame 0 (startHeader s)) := by
        simp only [engineStep, hp]
        rfl
      exact .inl ⟨_, hheader⟩
    | _ =>
      have hstep : engineStep s = fsmStep s := by simp only [engineStep, hp]
      rw [hstep]
      exact fsmStep_answersOrRefuses h.descriptorSound

/-! ## No move of the host ends in a fault -/

theorem hostWrite_ne_fault (s t : State) (r : Fault) : hostWrite s t ≠ .fault r := by
  unfold hostWrite
  split <;> exact nofun

theorem hostMove_ne_fault (m : HostMove) {s : State} (h : s.Inv) (r : Fault) : hostMove m s ≠ .fault r := by
  cases m with
  | wait => exact (engineStep_answersOrRefuses h).ne_fault r
  | tick => exact (fsmStep_answersOrRefuses h.descriptorSound).ne_fault r
  | start =>
    obtain hrests | ⟨i, k, hk⟩ := hostStart_run h
    · rw [hostMove, hrests]
      exact nofun
    · rw [hostMove, hk]
      exact fsmRun_ne_fault k (descriptorSound_of_unused rfl) r
  | startPulse =>
    simp only [hostMove, hostStartPulse]
    split <;> exact nofun
  | writeReg reg v => exact hostWrite_ne_fault _ _ r
  | writeIe v => exact hostWrite_ne_fault _ _ r
  | writeBuf i v =>
    simp only [hostMove]
    split
    · exact hostWrite_ne_fault _ _ r
    · exact nofun
  | rst => exact nofun

/-- Settles O58: every command byte sent exists and every payload byte under way lies in the buffer, so outside the dispatch and
the pre-check a step of the engine answers; START of a whole operation is a run of the sequencer's steps. -/
theorem engineGoesOn : Obligations.EngineGoesOn := by
  intro s hinv
  refine ⟨fun r => hostMove_ne_fault (nextMove s) (popMove_inv hinv) r, fun hwait => ?_⟩
  rw [step_wait hwait]
  exact engineStep_answersOrRefuses (popMove_inv hinv)

end Sys2Proof.Machine

/-! PROOF. Durations (70_reset_and_hazards.md R310, R311; 43_device_operations.md R192, R206, R207): a trace lasts what its
shape lasts, a run of pieces at least as many times the least of a piece, and an operation what its sessions last. -/

namespace Sys2Proof.Machine

/-! ## The least duration of a trace -/

@[simp] theorem leastMicros_nil : leastMicros [] = 0 := rfl

@[simp] theorem leastMicros_cons (m : MicroOp) (ops : List MicroOp) : leastMicros (m :: ops) = opMicros m + leastMicros ops :=
  rfl

@[simp] theorem leastMicros_append (a b : List MicroOp) : leastMicros (a ++ b) = leastMicros a + leastMicros b := by
  simp only [leastMicros, List.map_append, List.sum_append]

theorem leastMicros_reverse (ops : List MicroOp) : leastMicros ops.reverse = leastMicros ops := by
  rw [leastMicros, List.map_reverse, List.sum_reverse, leastMicros]

/-- What a sample returned takes no time. -/
theorem leastMicros_shapeOf (ops : List MicroOp) : leastMicros (shapeOf ops) = leastMicros ops := by
  have hshape : opMicros ∘ MicroOp.shape = opMicros := funext fun m => by cases m <;> rfl
  rw [leastMicros, shapeOf, List.map_map, hshape, leastMicros]

theorem traced.leastMicros_eq {s t : State} {shape : List MicroOp} (h : traced s t shape) :
    leastMicros t.trace = leastMicros s.trace + leastMicros shape := by
  obtain ⟨ops, htrace, rfl⟩ := h
  rw [htrace, leastMicros_append, leastMicros_reverse, leastMicros_shapeOf, Nat.add_comm]

/-- A run of pieces of at least `n` microseconds each. -/
theorem le_leastMicros_flatMap {α : Type} {f : α → List MicroOp} {n : Nat} (h : ∀ a, n ≤ leastMicros (f a)) (l : List α) :
    n * l.length ≤ leastMicros (l.flatMap f) := by
  induction l with
  | nil => exact Nat.zero_le _
  | cons a l ih =>
    rw [List.length_cons, Nat.mul_succ, List.flatMap_cons, leastMicros_append, Nat.add_comm]
    exact Nat.add_le_add (h a) ih

/-! ## Slots, frames, leads, header (R311) -/

theorem slotShape_lasts (w : Bool) : 40 ≤ leastMicros (slotShape w) := by
  have hquarter : 10 ≤ Config.micros .quarter := minMicros_le_micros .quarter
  simp only [slotShape, slotTrace, leastMicros_cons, leastMicros_nil, opMicros]
  omega

theorem releasedShape_lasts : 40 ≤ leastMicros releasedShape := by
  have hslot : 40 ≤ leastMicros (slotTrace true false false) := slotShape_lasts true
  rw [releasedShape, releasedSlotTrace, leastMicros_append, leastMicros_append]
  omega

/-- Ten slots, whichever way the data goes (41_byte_framing.md R166). -/
theorem frame_lasts (f : BusFrame) : 400 ≤ leastMicros f.shape := by
  have hsak := releasedShape_lasts
  cases f with
  | sent v mak =>
    have hslots : 40 * 9 ≤ leastMicros ((wireBits v ++ [mak]).flatMap slotShape) :=
      le_leastMicros_flatMap slotShape_lasts (wireBits v ++ [mak])
    rw [BusFrame.shape, leastMicros_append]
    omega
  | received mak =>
    have hslots : 40 * 8 ≤ leastMicros ((List.replicate 8 true).flatMap slotShape) :=
      le_leastMicros_flatMap slotShape_lasts (List.replicate 8 true)
    have hmak := slotShape_lasts mak
    simp only [BusFrame.shape, leastMicros_append]
    omega

theorem standbyShape_lasts : Config.tSetup + 600 ≤ leastMicros standbyShape := by
  have hsetup : Config.tSetup ≤ Config.micros .setup := minMicros_le_micros .setup
  have hstandby : 600 ≤ Config.micros .stby := minMicros_le_micros .stby
  simp only [standbyShape, leastMicros_cons, leastMicros_nil, opMicros, Nat.zero_add, Nat.add_zero]
  exact Nat.add_le_add hsetup hstandby

theorem gapShape_lasts : 10 ≤ leastMicros gapShape := by
  have hgap : 10 ≤ Config.micros .gap := minMicros_le_micros .gap
  simp only [gapShape, leastMicros_cons, leastMicros_nil, opMicros]
  omega

theorem headerShape_lasts : 405 ≤ leastMicros headerShape := by
  have hhold : 5 ≤ Config.micros .hdr := minMicros_le_micros .hdr
  have hframe := frame_lasts (.sent 0x55#8 true)
  simp only [headerShape, leastMicros_append, leastMicros_cons, leastMicros_nil, opMicros]
  omega

/-! ## Sessions -/

/-- Lead, header and the frames that follow it (43_device_operations.md R192). -/
theorem sessionShape_lasts (lead : List MicroOp) (ie : Bool) (frames : List BusFrame) :
    leastMicros lead + (405 + 400 * frames.length) ≤ leastMicros (sessionShape lead ie frames) := by
  have hheader := headerShape_lasts
  have hframes : 400 * frames.length ≤ leastMicros (framesShape frames) := le_leastMicros_flatMap frame_lasts frames
  simp only [sessionShape, leastMicros_append]
  omega

/-- A successful operation of one transaction has all its frames on the line. -/
theorem SessionDone.lasts {op : DevOp} {frames : List BusFrame} {s t : State} (h : SessionDone op frames s t)
    (hsuccess : t.res.success = true) :
    leastMicros s.trace + Config.tSetup + (1005 + 400 * frames.length) ≤ leastMicros t.trace := by
  obtain ⟨hresult, -⟩ := h.result
  have hall : framesRun s 1 frames.length = frames.length := framesRun_of_allAcked (hresult.symm.trans hsuccess)
  have htrace := h.trace
  rw [hall, List.take_length] at htrace
  have hsession := sessionShape_lasts standbyShape s.host.ie frames
  have hstandby := standbyShape_lasts
  rw [htrace.leastMicros_eq]
  omega

/-- The same of the state that a request is said to lead to. -/
theorem request_lasts {i : Instr} {op : DevOp} {frames : List BusFrame} {s t : State} {rest : State → Prop} {n : Nat}
    (hdone : ∃ u, exec i s = .next u ∧ SessionDone op frames s u ∧ rest u) (hframes : 1005 + 400 * frames.length = n)
    (hstep : exec i s = .next t) (hsuccess : t.res.success = true) :
    leastMicros s.trace + Config.tSetup + n ≤ leastMicros t.trace := by
  obtain ⟨u, hexec, hsession, -⟩ := hdone
  obtain rfl : u = t := Host.Outcome.next.inj (hexec.symm.trans hstep)
  exact hframes ▸ hsession.lasts hsuccess

/-! ## `read` and `start_write` -/

/-- A `read` that answers fits the buffer (20_memory.md R71), and its payload is `LENGTH` frames. -/
theorem read_lasts {dev : Byte} {offset length : Half} {s t : State} (hready : s.ready)
    (hstep : exec (.read dev offset length) s = .next t) (hsuccess : t.res.success = true) :
    leastMicros s.trace + Config.tSetup + (2605 + 400 * length.toNat) ≤ leastMicros t.trace := by
  have hfits : length.toNat ≤ s.host.bufSize := by
    by_contra hlong
    obtain ⟨-, -, hrefused⟩ := bufferRangeRefused dev 0 0 offset length s
    obtain ⟨hread, -⟩ := hrefused hready (Nat.lt_of_not_le hlong)
    exact nomatch hread.symm.trans hstep
  refine request_lasts (read dev offset length s hready hfits) ?_ hstep hsuccess
  rw [List.length_append, length_receivedRun]
  simp only [List.length_cons, List.length_nil]
  omega

/-- A `start_write` that succeeds lies inside a page (43_device_operations.md R196) and fits the buffer. -/
theorem startWrite_lasts {dev : Byte} {offset length : Half} {s t : State} (hready : s.ready)
    (hstep : exec (.startWrite dev offset length) s = .next t) (hsuccess : t.res.success = true) :
    leastMicros s.trace + Config.tSetup + (2605 + 400 * length.toNat) ≤ leastMicros t.trace := by
  have hpage : offset.toNat % 16 + length.toNat ≤ 16 := by
    by_contra hcross
    obtain ⟨u, hexec, ⟨hfailure, -⟩, -⟩ := pageViolation dev offset length s hready (Nat.lt_of_not_le hcross)
    obtain rfl : u = t := Host.Outcome.next.inj (hexec.symm.trans hstep)
    exact Bool.false_ne_true (hfailure.symm.trans hsuccess)
  have hfits : length.toNat ≤ s.host.bufSize := by
    by_contra hlong
    obtain ⟨-, -, hrefused⟩ := bufferRangeRefused dev 0 0 offset length s
    obtain ⟨-, hwrite, -⟩ := hrefused hready (Nat.lt_of_not_le hlong)
    exact nomatch (hwrite hpage).symm.trans hstep
  refine request_lasts (startWrite dev offset length s hready hpage hfits) ?_ hstep hsuccess
  rw [List.length_append, length_sentRun, bufferBytes, List.length_map, List.length_range]
  simp only [List.length_cons, List.length_nil]
  omega

/-! ## The critical sections of a trace -/

theorem exchanges_shapeOf (ops : List MicroOp) : exchanges (shapeOf ops) = exchanges ops := by
  have hshape : (· == MicroOp.csEnter) ∘ MicroOp.shape = (· == MicroOp.csEnter) := funext fun m => by cases m <;> rfl
  simp only [exchanges, shapeOf, List.count, List.countP_map, hshape]

theorem traced.exchanges_eq {s t : State} {shape : List MicroOp} (h : traced s t shape) :
    exchanges t.trace = exchanges s.trace + exchanges shape := by
  obtain ⟨ops, htrace, rfl⟩ := h
  rw [exchanges_shapeOf, htrace, exchanges, List.count_append, List.count_reverse, Nat.add_comm, exchanges, exchanges]

/-- No frame enters a critical section. -/
theorem csEnter_notMem_frame (f : BusFrame) : MicroOp.csEnter ∉ f.shape := by
  cases f <;> simp [BusFrame.shape, slotShape, slotTrace, releasedShape, releasedSlotTrace]

/-- A poll enters one critical section (R192). -/
theorem exchanges_pollShape (ie : Bool) (dev : Byte) : exchanges (pollShape ie dev) = 1 := by
  have hframes (frames : List BusFrame) : (framesShape frames).count .csEnter = 0 :=
    List.count_eq_zero.2 fun h => by
      obtain ⟨f, -, hf⟩ := List.mem_flatMap.1 h
      exact csEnter_notMem_frame f hf
  have hheader := List.count_eq_zero.2 (csEnter_notMem_frame (.sent 0x55#8 true))
  simp [exchanges, pollShape, sessionShape, gapShape, headerShape, hframes, hheader]

/-- One gap, one header and three frames (43_device_operations.md R207). -/
theorem pollShape_lasts (ie : Bool) (dev : Byte) : 1615 ≤ leastMicros (pollShape ie dev) := by
  have hgap := gapShape_lasts
  have hsession : leastMicros gapShape + (405 + 400 * 3) ≤ leastMicros (pollShape ie dev) :=
    sessionShape_lasts gapShape ie (rdsrFrames dev)
  omega

/-! ## `await_write_complete` -/

/-- An acknowledged poll is whole, in a critical section of its own. -/
theorem poll_lasts_of_acked {s : State} {d : DescRegs} {dev : Byte} (hrow : s.desc = pollRow d dev)
    (hacked : pollAcked s 0 = true) :
    leastMicros s.trace + 1615 * (exchanges (transaction s).trace - exchanges s.trace) ≤ leastMicros (transaction s).trace := by
  have htrace := poll_traced_of_acked hrow hacked
  have hpoll := pollShape_lasts s.host.ie dev
  rw [htrace.leastMicros_eq, htrace.exchanges_eq, exchanges_pollShape, Nat.add_sub_cancel_left]
  exact Nat.add_le_add_left hpoll _

/-- Where `OK` is 1 after the loop, every poll it ran was acknowledged. -/
theorem pollLoop_lasts_of_ok {s : State} {d : DescRegs} {dev : Byte} {fuel : Nat} (hrow : s.desc = pollRow d dev)
    (hok : (pollLoop fuel s).seq.ok = true) :
    leastMicros s.trace + 1615 * (exchanges (pollLoop fuel s).trace - exchanges s.trace) ≤
      leastMicros (pollLoop fuel s).trace := by
  induction fuel generalizing s with
  | zero => simp [pollLoop]
  | succ fuel ih =>
    have hpollOk : (transaction s).seq.ok = pollAcked s 0 := (poll_done hrow).ok
    rw [pollLoop_succ] at hok ⊢
    split at hok
    next hbusy =>
      obtain ⟨hacked, -⟩ := Bool.and_eq_true_iff.1 hbusy
      obtain ⟨-, -, hdesc, -⟩ := transaction_run s
      have hpoll := poll_lasts_of_acked hrow (hpollOk.symm.trans hacked)
      have hrest := ih (hdesc.trans hrow) hok
      rw [if_pos hbusy]
      omega
    next hend =>
      rw [if_neg hend]
      exact poll_lasts_of_acked hrow (hpollOk.symm.trans hok)

/-- `await_write_complete` after the last poll of its step. -/
def awaitPolled (dev : Byte) (s : State) : State := pollLoop (pollFuel (awaitBegun dev s)) (awaitBegun dev s)

/-- With `SUCCESS` 1 the polls were all acknowledged: where they have ended it is their outcome, and where it stands from an
earlier operation the last one is busy. -/
theorem awaitPolled_of_success {dev : Byte} {s t : State} (hready : s.ready)
    (hstep : exec (.awaitWriteComplete dev) s = .next t) (hsuccess : t.res.success = true) :
    (awaitPolled dev s).seq.ok = true ∧ t.trace = (awaitPolled dev s).trace := by
  cases hpolling : stillPolling (awaitPolled dev s) with
  | false =>
    obtain rfl := Host.Outcome.next.inj ((execAwait_ended hready hpolling).symm.trans hstep)
    exact ⟨hsuccess, rfl⟩
  | true =>
    obtain rfl := Host.Outcome.next.inj ((execAwait_polling hready hpolling).symm.trans hstep)
    obtain ⟨hok, -⟩ := Bool.and_eq_true_iff.1 hpolling
    exact ⟨hok, rfl⟩

/-- The standby pulse, which enters no critical section, and the polls. -/
theorem await_lasts {dev : Byte} {s t : State} (hready : s.ready) (hstep : exec (.awaitWriteComplete dev) s = .next t)
    (hsuccess : t.res.success = true) :
    leastMicros s.trace + Config.tSetup + (600 + 1615 * (exchanges t.trace - exchanges s.trace)) ≤ leastMicros t.trace := by
  obtain ⟨hok, htrace⟩ := awaitPolled_of_success hready hstep hsuccess
  have hpolls : leastMicros (awaitBegun dev s).trace +
      1615 * (exchanges (awaitPolled dev s).trace - exchanges (awaitBegun dev s).trace) ≤
        leastMicros (awaitPolled dev s).trace :=
    pollLoop_lasts_of_ok (d := s.desc) rfl hok
  have hexchanges : exchanges (awaitBegun dev s).trace = exchanges s.trace := (awaitBegun_traced dev s).exchanges_eq
  have hstandby := standbyShape_lasts
  rw [(awaitBegun_traced dev s).leastMicros_eq, hexchanges] at hpolls
  rw [htrace]
  omega

/-! ## The obligation -/

/-- Settles O60: the shapes by their slots and delays, the operations by the frames a success has on the line. -/
theorem durations : Obligations.Durations := by
  refine ⟨fun w v mak => ⟨slotShape_lasts w, frame_lasts _, frame_lasts _⟩, standbyShape_lasts, headerShape_lasts,
    fun dev status offset length s t hready hsuccess =>
      ⟨?writeEnable, ?status, ?payload, fun hstep => await_lasts hready hstep hsuccess⟩⟩
  case writeEnable =>
    rintro (hstep | hstep)
    · exact request_lasts (enableWrite dev s hready) (by simp) hstep hsuccess
    · exact request_lasts (disableWrite dev s hready) (by simp) hstep hsuccess
  case status =>
    rintro (hstep | hstep)
    · exact request_lasts (readStatus dev s hready) (by simp) hstep hsuccess
    · exact request_lasts (writeStatus dev status s hready) (by simp) hstep hsuccess
  case payload =>
    rintro (hstep | hstep)
    · exact read_lasts hready hstep hsuccess
    · exact startWrite_lasts hready hstep hsuccess

end Sys2Proof.Machine
